-- ==== Sys2Proof/Word.lean ====
section
/-! DEFINITION. The words of the PS8: bytes of the path bus, ticks of the time base, sheet ids and counters. -/

namespace Sys2Proof

/-- One character's eight data bits (R144). -/
abbrev Byte := BitVec 8

/-- A two-byte field of a frame, most significant byte first (R170). -/
abbrev Half := BitVec 16

/-- A value of the 16-bit time base (R21). -/
abbrev Tick := BitVec 16

/-- A sheet id, 0 to 4095 (R1). -/
abbrev SheetId := BitVec 12

/-- The value of one of the eleven 16-bit counters (R155). -/
abbrev Count := BitVec 16

/-- A set of jam kinds: bit k - 1 stands for kind code k (chapter 11.2). -/
abbrev KindSet := BitVec 12

/-- A set of sensors: bit k stands for sensor k (chapter 11.2). -/
abbrev SensorSet := BitVec 4

end Sys2Proof
end

