-- ==== Sys2Proof/Syntax.lean ====
section
/-! DEFINITION. The commands of the PS8, one constructor per row of spec/opcode_table.json, with the operands the
rules name. A frame's fields stand here as they arrive: reading them (R170) belongs to the meanings. -/

namespace Sys2Proof

/-- The level of a sheet sensor: high is COVERED, low is CLEAR (R38). -/
inductive Level where
  | clear
  | covered
deriving DecidableEq, Repr

/-- The level of the cover switch: high is closed (chapter 0, Pins). -/
inductive CoverLevel where
  | opened
  | closed
deriving DecidableEq, Repr

/-- The five role flags (R166; SETUP byte 3). -/
structure Roles where
  feed : Bool
  delivery : Bool
  loop : Bool
  runout : Bool
  flip : Bool
deriving DecidableEq, Repr

/-- A set of sides (R11; SETUP byte 14). -/
structure SideSet where
  simplex : Bool
  front : Bool
  back : Bool
deriving DecidableEq, Repr

/-- The packed sheet tag of chapter 11.2 as received; its extra bits are unused in LAUNCH and HANDOFF. -/
structure WireTag where
  sheetId : SheetId
  job : Byte
  page : BitVec 16
  side : BitVec 2
  heavy : Bool
  length : BitVec 13
deriving DecidableEq, Repr

/-- The fields of a SETUP payload (chapter 11.3) as received. -/
structure SetupFrame where
  epoch : Byte
  rank : Byte
  roles : Roles
  upA : BitVec 4
  upB : BitVec 4
  exitA : BitVec 4
  exitB : BitVec 4
  bridgeA : BitVec 16
  bridgeB : BitVec 16
  reachA : BitVec 16
  reachB : BitVec 16
  divertPresent : Bool
  divert : SideSet
  n : Byte
  pos1 : BitVec 16
  pos2 : BitVec 16
  pos3 : BitVec 16
  anchoring : BitVec 2
  escalation : BitVec 2
  report : BitVec 2
  mode0 : BitVec 2
  mode1 : BitVec 2
  mode2 : BitVec 2
  mode3 : BitVec 2
  filter : Byte
  speed : BitVec 16
  tolPct : Byte
  slack : BitVec 16
  lenTol : BitVec 16
  linkAllow : BitVec 16
  pickDelay : BitVec 16
  stopSettle : BitVec 16
  coverSettle : BitVec 16
deriving DecidableEq, Repr

/-- The fields of a HELLO payload (chapter 11.4) as received. -/
structure HelloFrame where
  fresh : Bool
  configured : Bool
  exitB : Bool
  rank : Byte
  roles : Roles
  sensorCount : Byte
deriving DecidableEq, Repr

/-- The fields of a JAM payload (chapter 11.4) as received. -/
structure JamFrame where
  kind : Byte
  sensor : Byte
  noSheet : Bool
  sheetId : SheetId
  rank : Byte
  epoch : Byte
deriving DecidableEq, Repr

/-- The frame types a station sends and never takes (R148). -/
inductive ReportType where
  | census
  | notice
  | status
deriving DecidableEq, Repr

/-- A character as read on PB_RX after its start bit: eight data bits, the mark bit and the stop bit (R144). -/
structure Character where
  data : Byte
  mark : Bool
  stop : Bool
deriving DecidableEq, Repr

/-- The receive faults of R147. -/
inductive ReceiveFault where
  /-- A framing error in a character of the frame. -/
  | framing
  /-- A marked character after the destination, with its value: it begins a new frame. -/
  | marked (value : Byte)
  /-- An idle count above 2 before the CRC character. -/
  | idleGap
  /-- A length above 72. -/
  | lengthAbove72
  /-- The CRC character differs from the CRC computed. -/
  | crcDiffers
  /-- A type that is none of the thirteen. -/
  | unknownType
  /-- A length that is not one the type allows. -/
  | lengthNotAllowed
deriving DecidableEq, Repr

/-- The commands, one per row of the table of operations and events. -/
inductive Instr where
  /-- HARDWARE_RESET (R118): RST_N goes low or power is applied. -/
  | hardwareReset
  /-- RESET_RELEASE (R158, R41): the release of reset, with the samples of SID3..SID0, SNS0..SNS3 and CVR. -/
  | resetRelease (straps : BitVec 4) (sns : Vector Level 4) (cvr : CoverLevel)
  /-- SENSOR_INPUT_CHANGE (R38, R39): sensor `k` is sampled at `level`. -/
  | sensorInputChange (k : Fin 4) (level : Level)
  /-- FILTER_CONFIRM (R39): the candidate of sensor `k` has held for FILTER ticks. -/
  | filterConfirm (k : Fin 4)
  /-- RAW_EDGE (R40): sensor `k`, in RAW mode, is sampled at `level`. -/
  | rawEdge (k : Fin 4) (level : Level)
  /-- COVER_INPUT_CHANGE (R42): CVR is sampled at `level`. -/
  | coverInputChange (level : CoverLevel)
  /-- COVER_CONFIRM (R42): the cover candidate has held for 50 ticks. -/
  | coverConfirm
  /-- HALT_LINE_CHANGE (R98): HALT_N is sampled while the other parties hold it low, or none does. -/
  | haltLineChange (othersHold : Bool)
  /-- LEAD_EXPIRY (R22): the lead due tick of the record of `sheet` is reached. -/
  | leadExpiry (sheet : SheetId)
  /-- TRAIL_EXPIRY (R22, R53): the trail due tick of the record of `sheet` is reached. -/
  | trailExpiry (sheet : SheetId)
  /-- TAKE_EXPIRY (R22, R54): the take due tick of the record of `sheet` is reached. -/
  | takeExpiry (sheet : SheetId)
  /-- DECIDE_TIMER_EXPIRY (R108). -/
  | decideTimerExpiry
  /-- STOP_SETTLE_EXPIRY (R130). -/
  | stopSettleExpiry
  /-- COVER_SETTLE_EXPIRY (R116). -/
  | coverSettleExpiry
  /-- SETUP (R163). -/
  | setup (source : Byte) (f : SetupFrame)
  /-- HELLO (R161, R162). -/
  | hello (source : Byte) (f : HelloFrame)
  /-- LAUNCH (R62). -/
  | launch (source : Byte) (tag : WireTag)
  /-- HANDOFF (R68, R69). -/
  | handoff (source : Byte) (tag : WireTag) (age : BitVec 16)
  /-- TAKEN (R72). -/
  | taken (source : Byte) (sheet : SheetId)
  /-- SPEED (R36). -/
  | speed (source : Byte) (value : BitVec 16)
  /-- RESUME (R105). -/
  | resume (source : Byte) (epoch : Byte)
  /-- RESTART (R169). -/
  | restart (source : Byte)
  /-- QUERY with its census flag clear (R154). -/
  | queryStatus (source : Byte)
  /-- QUERY with its census flag set (R142). -/
  | queryCensus (source : Byte)
  /-- JAM (R89). -/
  | jam (source : Byte) (f : JamFrame)
  /-- UNTAKEN_FRAME (R148): a CENSUS, NOTICE or STATUS frame received by a station. -/
  | untakenFrame (source : Byte) (type : ReportType) (payload : List Byte)
  /-- FRAME_ABANDON (R147): a character arrives that shows a receive fault of the frame collected, or, with none, the idle
  count stands above 2. It is also the arrival of any other character that no other command brings (log 4). -/
  | frameAbandon (c : Option Character)
  /-- ASSEMBLER_IDLE (R145): in PASSING the idle count stands at `idle`, above 2. -/
  | assemblerIdle (idle : Nat)
  /-- TRANSMIT_START (R150): the idle count has reached the gap of the offered frame, and stands at `idle`, at the end of
  a character time. -/
  | transmitStart (idle : Nat)
  /-- COLLISION (R151): a character read back differs from the character sent. -/
  | collision
  /-- TRANSMIT_COMPLETE (R151): the CRC character has been read back without difference. -/
  | transmitComplete
  /-- MARKED_CHARACTER (R145): a marked character without a framing error arrives on PB_RX. -/
  | markedCharacter (value : Byte)
deriving DecidableEq, Repr

end Sys2Proof
end

