-- ==== Sys2Proof/WellFormed.lean ====
section
/-! DEFINITION. Which commands can stand for an event of the table. The types of the operands rule out the rest. -/

namespace Sys2Proof

/-- The payload lengths of the report frame types (chapter 11.1). -/
def ReportType.payloadLengths : ReportType → List Nat
  | .census => [12, 20, 27, 35, 42, 50, 57, 65, 72]
  | .notice => [4, 6, 7]
  | .status => [42]

/-- A received report frame has a length its type allows (R147: any other length abandons the frame), and the idle count
of ASSEMBLER_IDLE is above 2 (R145); every other operand is whole in its type. -/
def Instr.WellFormed : Instr → Bool
  | .untakenFrame _ type payload => type.payloadLengths.contains payload.length
  | .assemblerIdle idle => decide (2 < idle)
  | .hardwareReset => true
  | .resetRelease _ _ _ => true
  | .sensorInputChange _ _ => true
  | .filterConfirm _ => true
  | .rawEdge _ _ => true
  | .coverInputChange _ => true
  | .coverConfirm => true
  | .haltLineChange _ => true
  | .leadExpiry _ => true
  | .trailExpiry _ => true
  | .takeExpiry _ => true
  | .decideTimerExpiry => true
  | .stopSettleExpiry => true
  | .coverSettleExpiry => true
  | .setup _ _ => true
  | .hello _ _ => true
  | .launch _ _ => true
  | .handoff _ _ _ => true
  | .taken _ _ => true
  | .speed _ _ => true
  | .resume _ _ => true
  | .restart _ => true
  | .queryStatus _ => true
  | .queryCensus _ => true
  | .jam _ _ => true
  | .frameAbandon _ => true
  | .transmitStart _ => true
  | .collision => true
  | .transmitComplete => true
  | .markedCharacter _ => true

end Sys2Proof
end

