-- ==== Sys2Proof/Decode.lean ====
section
/-! DEFINITION. Frames as bytes: the CRC (R146), the checks a frame must pass to be received (R147), the reading of
each payload (chapter 11, R170), and the encoder of the frames a station can receive. -/

namespace Sys2Proof

/-! ## CRC-8 (R146) -/

/-- One data bit entering the CRC register (R146, steps 2 and 3). -/
def crcBit (register : Byte) (bit : Bool) : Byte :=
  if register.msb != bit then (register <<< 1) ^^^ 7 else register <<< 1

/-- One byte entering the CRC register, most significant bit first (R146). -/
def crcByte (register : Byte) (b : Byte) : Byte :=
  [7, 6, 5, 4, 3, 2, 1, 0].foldl (fun r i => crcBit r (b.getLsbD i)) register

/-- The CRC of a run of bytes (R146). -/
def crc8 (bytes : List Byte) : Byte :=
  bytes.foldl crcByte 0

/-! ## Byte packing (chapter 11.2, R170) -/

/-- Byte `i` of a payload, counted from 1 as chapter 11 counts. -/
def byteAt (p : List Byte) (i : Nat) : Byte :=
  p.getD (i - 1) 0

/-- The two-byte number at byte `i`, most significant byte first (R170). -/
def halfAt (p : List Byte) (i : Nat) : Half :=
  byteAt p i ++ byteAt p (i + 1)

/-- A two-byte number as sent, most significant byte first (R170). -/
def halfBytes (w : Half) : List Byte :=
  [w.extractLsb' 8 8, w.extractLsb' 0 8]

/-- Eight bits as a byte, bit 7 first. -/
def bitsByte (b7 b6 b5 b4 b3 b2 b1 b0 : Bool) : Byte :=
  BitVec.ofBool b7 ++ BitVec.ofBool b6 ++ BitVec.ofBool b5 ++ BitVec.ofBool b4 ++ BitVec.ofBool b3 ++ BitVec.ofBool b2
    ++ BitVec.ofBool b1 ++ BitVec.ofBool b0

/-- The roles of SETUP byte 3 and HELLO byte 3. -/
def rolesOfByte (b : Byte) : Roles :=
  { feed := b.getLsbD 0, delivery := b.getLsbD 1, loop := b.getLsbD 2, runout := b.getLsbD 3, flip := b.getLsbD 4 }

/-- The roles as SETUP byte 3 and HELLO byte 3 carry them; bits 5 to 7 are unused. -/
def rolesByte (r : Roles) : Byte :=
  bitsByte false false false r.flip r.runout r.loop r.delivery r.feed

/-- The packed sheet tag that begins at byte `i` (chapter 11.2); its extra bits are not read. -/
def tagAt (p : List Byte) (i : Nat) : WireTag :=
  { sheetId := (halfAt p i).extractLsb' 0 12
    job := byteAt p (i + 2)
    page := halfAt p (i + 3)
    side := (halfAt p (i + 5)).extractLsb' 14 2
    heavy := (halfAt p (i + 5)).getLsbD 13
    length := (halfAt p (i + 5)).extractLsb' 0 13 }

/-- The packed sheet tag with the given extra bits (chapter 11.2). -/
def tagBytes (extra : BitVec 4) (t : WireTag) : List Byte :=
  halfBytes (extra ++ t.sheetId) ++ [t.job] ++ halfBytes t.page
    ++ halfBytes (t.side ++ BitVec.ofBool t.heavy ++ t.length)

/-! ## Types and lengths (chapter 11.1) -/

/-- The thirteen frame types (R145). -/
inductive FrameType where
  | setup
  | hello
  | launch
  | handoff
  | taken
  | speed
  | resume
  | restart
  | query
  | jam
  | census
  | notice
  | status
deriving DecidableEq, Repr

/-- The type code of a frame type (chapter 11.1). -/
def typeCode : FrameType → Byte
  | .setup => 1
  | .hello => 2
  | .launch => 3
  | .handoff => 4
  | .taken => 5
  | .speed => 6
  | .resume => 7
  | .restart => 8
  | .query => 9
  | .jam => 10
  | .census => 11
  | .notice => 12
  | .status => 13

/-- The frame types in the order of their codes. -/
def frameTypes : List FrameType :=
  [.setup, .hello, .launch, .handoff, .taken, .speed, .resume, .restart, .query, .jam, .census, .notice, .status]

/-- The frame type a type code names; a code outside 1 to 13 names none. -/
def typeOfCode (code : Byte) : Option FrameType :=
  frameTypes.find? fun t => typeCode t == code

/-- The frame type of a report a station sends and never takes (R148). -/
def reportFrameType : ReportType → FrameType
  | .census => .census
  | .notice => .notice
  | .status => .status

/-- The payload lengths a type allows (chapter 11.1). -/
def payloadLengths : FrameType → List Nat
  | .setup => [39]
  | .hello => [4]
  | .launch => [7]
  | .handoff => [9]
  | .taken => [2]
  | .speed => [2]
  | .resume => [1]
  | .restart => [0]
  | .query => [1]
  | .jam => [6]
  | .census => ReportType.payloadLengths .census
  | .notice => ReportType.payloadLengths .notice
  | .status => ReportType.payloadLengths .status

/-! ## Payloads -/

/-- The SETUP payload (chapter 11.3). -/
def setupOfPayload (p : List Byte) : SetupFrame :=
  { epoch := byteAt p 1
    rank := byteAt p 2
    roles := rolesOfByte (byteAt p 3)
    upA := (byteAt p 4).extractLsb' 4 4
    upB := (byteAt p 4).extractLsb' 0 4
    exitA := (byteAt p 5).extractLsb' 4 4
    exitB := (byteAt p 5).extractLsb' 0 4
    bridgeA := halfAt p 6
    bridgeB := halfAt p 8
    reachA := halfAt p 10
    reachB := halfAt p 12
    divertPresent := (byteAt p 14).getLsbD 7
    divert :=
      { simplex := (byteAt p 14).getLsbD 0, front := (byteAt p 14).getLsbD 1, back := (byteAt p 14).getLsbD 2 }
    n := byteAt p 15
    pos1 := halfAt p 16
    pos2 := halfAt p 18
    pos3 := halfAt p 20
    anchoring := (byteAt p 22).extractLsb' 6 2
    escalation := (byteAt p 22).extractLsb' 4 2
    report := (byteAt p 22).extractLsb' 2 2
    mode0 := (byteAt p 23).extractLsb' 0 2
    mode1 := (byteAt p 23).extractLsb' 2 2
    mode2 := (byteAt p 23).extractLsb' 4 2
    mode3 := (byteAt p 23).extractLsb' 6 2
    filter := byteAt p 24
    speed := halfAt p 25
    tolPct := byteAt p 27
    slack := halfAt p 28
    lenTol := halfAt p 30
    linkAllow := halfAt p 32
    pickDelay := halfAt p 34
    stopSettle := halfAt p 36
    coverSettle := halfAt p 38 }

/-- The SETUP payload as sent by the job station (chapter 11.3). -/
def setupPayload (f : SetupFrame) : List Byte :=
  [f.epoch, f.rank, rolesByte f.roles, f.upA ++ f.upB, f.exitA ++ f.exitB]
    ++ halfBytes f.bridgeA ++ halfBytes f.bridgeB ++ halfBytes f.reachA ++ halfBytes f.reachB
    ++ [bitsByte f.divertPresent false false false false f.divert.back f.divert.front f.divert.simplex, f.n]
    ++ halfBytes f.pos1 ++ halfBytes f.pos2 ++ halfBytes f.pos3
    ++ [f.anchoring ++ f.escalation ++ f.report ++ (0 : BitVec 2), f.mode3 ++ f.mode2 ++ f.mode1 ++ f.mode0, f.filter]
    ++ halfBytes f.speed ++ [f.tolPct] ++ halfBytes f.slack ++ halfBytes f.lenTol ++ halfBytes f.linkAllow
    ++ halfBytes f.pickDelay ++ halfBytes f.stopSettle ++ halfBytes f.coverSettle

/-- The HELLO payload (chapter 11.4). -/
def helloOfPayload (p : List Byte) : HelloFrame :=
  { fresh := (byteAt p 1).getLsbD 7
    configured := (byteAt p 1).getLsbD 6
    exitB := (byteAt p 1).getLsbD 5
    rank := byteAt p 2
    roles := rolesOfByte (byteAt p 3)
    sensorCount := byteAt p 4 }

/-- The HELLO payload as sent (chapter 11.4). -/
def helloPayload (f : HelloFrame) : List Byte :=
  [bitsByte f.fresh f.configured f.exitB false false false false false, f.rank, rolesByte f.roles, f.sensorCount]

/-- The JAM payload (chapter 11.4). -/
def jamOfPayload (p : List Byte) : JamFrame :=
  { kind := byteAt p 1
    sensor := byteAt p 2
    noSheet := (halfAt p 3).getLsbD 15
    sheetId := (halfAt p 3).extractLsb' 0 12
    rank := byteAt p 5
    epoch := byteAt p 6 }

/-- The JAM payload as sent (chapter 11.4). -/
def jamPayload (f : JamFrame) : List Byte :=
  [f.kind, f.sensor] ++ halfBytes (BitVec.ofBool f.noSheet ++ (0 : BitVec 3) ++ f.sheetId) ++ [f.rank, f.epoch]

/-- The command that a received frame of a type stands for (R148). -/
def commandOfFrame (source : Byte) (p : List Byte) : FrameType → Instr
  | .setup => .setup source (setupOfPayload p)
  | .hello => .hello source (helloOfPayload p)
  | .launch => .launch source (tagAt p 1)
  | .handoff => .handoff source (tagAt p 1) (halfAt p 8)
  | .taken => .taken source ((halfAt p 1).extractLsb' 0 12)
  | .speed => .speed source (halfAt p 1)
  | .resume => .resume source (byteAt p 1)
  | .restart => .restart source
  | .query => if (byteAt p 1).getLsbD 0 then .queryCensus source else .queryStatus source
  | .jam => .jam source (jamOfPayload p)
  | .census => .untakenFrame source .census p
  | .notice => .untakenFrame source .notice p
  | .status => .untakenFrame source .status p

/-! ## Whole frames -/

/-- The characters of a frame from the destination to the CRC (R145). -/
def frameBytes (dest source : Byte) (type : FrameType) (payload : List Byte) : List Byte :=
  let body := [dest, source, typeCode type, BitVec.ofNat 8 payload.length] ++ payload
  body ++ [crc8 body]

/-- What a run of unbroken characters, the first of them the marked destination, comes to: the command, or the first
of the faults of R147 that concern the frame's bytes; a run that has not come to its CRC character, and has no fault,
would be abandoned for the gap if nothing more came. -/
def decodeFrame : List Byte → Except ReceiveFault Instr
  | dest :: source :: code :: length :: rest =>
    let payload := rest.take length.toNat
    if 72 < length.toNat then .error .lengthAbove72
    else
      match rest.drop length.toNat with
      | [] => .error .idleGap
      | check :: _ =>
        if check ≠ crc8 ([dest, source, code, length] ++ payload) then .error .crcDiffers
        else
          match typeOfCode code with
          | none => .error .unknownType
          | some type =>
            if (payloadLengths type).contains length.toNat then .ok (commandOfFrame source payload type)
            else .error .lengthNotAllowed
  | _ => .error .idleGap

/-- The frame that carries a command to `dest`, for the commands that are received frames (chapter 11). -/
def encodeFrame (dest : Byte) : Instr → Option (List Byte)
  | .setup source f => some (frameBytes dest source .setup (setupPayload f))
  | .hello source f => some (frameBytes dest source .hello (helloPayload f))
  | .launch source tag => some (frameBytes dest source .launch (tagBytes 0 tag))
  | .handoff source tag age => some (frameBytes dest source .handoff (tagBytes 0 tag ++ halfBytes age))
  | .taken source sheet => some (frameBytes dest source .taken (halfBytes ((0 : BitVec 4) ++ sheet)))
  | .speed source value => some (frameBytes dest source .speed (halfBytes value))
  | .resume source epoch => some (frameBytes dest source .resume [epoch])
  | .restart source => some (frameBytes dest source .restart [])
  | .queryStatus source => some (frameBytes dest source .query [0])
  | .queryCensus source => some (frameBytes dest source .query [1])
  | .jam source f => some (frameBytes dest source .jam (jamPayload f))
  | .untakenFrame source type p => some (frameBytes dest source (reportFrameType type) p)
  | .hardwareReset | .resetRelease _ _ _ | .sensorInputChange _ _ | .filterConfirm _ | .rawEdge _ _
  | .coverInputChange _ | .coverConfirm | .haltLineChange _ | .leadExpiry _ | .trailExpiry _ | .takeExpiry _
  | .decideTimerExpiry | .stopSettleExpiry | .coverSettleExpiry | .frameAbandon _ | .assemblerIdle _
  | .transmitStart _ | .collision | .transmitComplete | .markedCharacter _ => none

/-! ## The table's words -/

/-- The command a table word spells: the rows of spec/opcode_table.json give no bits, so no word spells one (DESIGN
CHOICE, log 20). -/
def decodeTableWord (_nbits _w : Nat) : Option Instr :=
  none

end Sys2Proof
end

