-- ==== Sys2Proof/Machine/State.lean ====
section
/-! DEFINITION. The state of the station: the items of its eight blocks (chapter 0, Block overview), its pins, and the
queue of waiting commands. Every structure is plain data. -/

namespace Sys2Proof.Machine

/-! ## Sheets (chapter 1) -/

/-- The side of a sheet (R1). -/
inductive Side where
  | simplex
  | front
  | back
deriving DecidableEq, Repr

/-- A sheet tag as a record stores it: its length lies in 1000..6000 (R1, R2). -/
structure SheetTag where
  sheetId : SheetId
  job : Byte
  page : BitVec 16
  side : Side
  length : Nat
  heavy : Bool
deriving DecidableEq, Repr

/-- What announced a record (R3). -/
inductive Source where
  | launch
  | upA
  | upB
deriving DecidableEq, Repr

/-- An exit of the segment, and a position of the exit gate (R11, R58). -/
inductive Exit where
  | a
  | b
deriving DecidableEq, Repr

/-- The phase of a record (R7). -/
inductive Phase where
  | inbound
  | resident
  | outbound
deriving DecidableEq, Repr

/-- An armed deadline: its due tick, and the tick at which it was armed, by which a deadline armed in the past waits for
the next tick (R22, DEDUCED, log 15). -/
structure Deadline where
  tick : Tick
  armedAt : Tick
deriving DecidableEq, Repr

/-- A lead or trail window; the deadline is disarmed while `due` is absent (R5). -/
structure Window where
  early : Tick
  expected : Tick
  due : Option Deadline
deriving DecidableEq, Repr

/-- A sheet record (R3 to R6). -/
structure Record where
  tag : SheetTag
  source : Source
  exit : Exit
  phase : Phase
  entryAnchor : Tick
  expectedEntry : Tick
  leadIndex : Nat
  trailIndex : Nat
  leadCaptures : List Tick
  leadWindow : Option Window
  trailWindow : Option Window
  takeDue : Option Deadline
  taken : Option Bool
  outputBound : Option Bool
  /-- The entry LEAD was matched in RUNOUT, so that R27 anchors the inner lead windows at captures (DEDUCED, log 16). -/
  entryInRunout : Bool
deriving DecidableEq, Repr

/-- The Path Tracker's items (R8, R18, R19, R58). -/
structure Tracker where
  table : List Record
  runOut : List SheetTag
  lastDelivered : Option SheetTag
  gate : Exit
deriving DecidableEq, Repr

/-! ## Profile and roster (chapter 10) -/

/-- The anchoring mode of the inner lead windows (R27). -/
inductive Anchoring where
  | anchored
  | nominal
deriving DecidableEq, Repr

/-- What an own jam found in RUNOUT leads to (R93). -/
inductive Escalation where
  | fold
  | lockout
deriving DecidableEq, Repr

/-- The report level (R60, R61). -/
inductive ReportLevel where
  | none
  | slip
  | trace
deriving DecidableEq, Repr

/-- The filter mode a profile gives a sensor (R39, R40). -/
inductive FilterMode where
  | filtered
  | raw
deriving DecidableEq, Repr

/-- The profile (R166). `positions` and `modes` have one entry for each sensor below n; position 0 is 0. -/
structure Profile where
  rank : Nat
  roles : Roles
  upA : Nat
  upB : Nat
  bridgeA : Nat
  bridgeB : Nat
  exitA : Nat
  exitB : Nat
  reachA : Nat
  reachB : Nat
  divert : Option SideSet
  n : Nat
  positions : List Nat
  modes : List FilterMode
  filter : Nat
  anchoring : Anchoring
  speed : Nat
  tolPct : Nat
  slack : Nat
  lenTol : Nat
  linkAllow : Nat
  pickDelay : Nat
  stopSettle : Nat
  coverSettle : Nat
  escalation : Escalation
  report : ReportLevel
deriving DecidableEq, Repr

/-- One entry of the Peer Roster (R159, R162). -/
structure RosterEntry where
  configured : Bool
  rank : Nat
  roles : Roles
deriving DecidableEq, Repr

/-- The Setup and Roster Unit's items; `roster[i]` is the entry of station i + 1 (R158, R159). -/
structure SetupUnit where
  straps : BitVec 4
  profile : Option Profile
  roster : Vector RosterEntry 14
deriving DecidableEq, Repr

/-! ## Time and sensors (chapters 2 and 3) -/

/-- The Window Unit's items but for its counter (R21, R35). -/
structure WindowUnit where
  timeBase : Tick
  /-- Crystal periods into the present tick: the tick is the crystal divided by 400 (R21). -/
  crystal : Nat
  currentSpeed : Option Nat
  pendingSpeed : Option Nat
deriving DecidableEq, Repr

/-- How the Sensor Front End treats an input (R38). -/
inductive InputMode where
  /-- The level is followed and no edge is produced. -/
  | followed
  | filtered
  | raw
deriving DecidableEq, Repr

/-- A candidate level and the tick at which it began (R39, R42). -/
structure Candidate (L : Type) where
  level : L
  start : Tick
deriving DecidableEq, Repr

/-- One sheet sensor: the level at its pin, and what the Sensor Front End holds for it (R38, R39). -/
structure Sensor where
  pin : Level
  mode : InputMode
  stable : Level
  candidate : Option (Candidate Level)
deriving DecidableEq, Repr

/-- The cover switch: the level at CVR, the debounced level and the cover candidate (R42). -/
structure Cover where
  pin : CoverLevel
  level : CoverLevel
  candidate : Option (Candidate CoverLevel)
deriving DecidableEq, Repr

/-- The Sensor Front End's items but for its counter (R38 to R42). -/
structure FrontEnd where
  sensors : Vector Sensor 4
  cover : Cover
deriving DecidableEq, Repr

/-! ## Jams (chapter 5) -/

/-- The twelve jam kinds (5.1). -/
inductive JamKind where
  | late
  | early
  | stall
  | short
  | stray
  | gate
  | handoff
  | tableFull
  | duplicate
  | link
  | cover
  | peer
deriving DecidableEq, Repr

/-- The cause of a jam capture (R81). -/
inductive Cause where
  | own
  | remote
  | line
deriving DecidableEq, Repr

/-- A valid jam capture (R81). -/
structure Capture where
  cause : Cause
  kind : Option JamKind
  sensor : Option Nat
  sheetId : Option SheetId
  origin : Option Nat
  rank : Option Nat
deriving DecidableEq, Repr

/-- The report of an own jam (R57, R78 to R80). -/
structure JamReport where
  kind : JamKind
  sensor : Option Nat
  sheetId : Option SheetId
deriving DecidableEq, Repr

/-- The Jam Monitor's items (R81). -/
structure JamMonitor where
  capture : Option Capture
  laterSet : KindSet
  laterCount : Nat
  highestRank : Nat
  jamSent : Bool
deriving DecidableEq, Repr

/-! ## Path states (chapter 6) -/

/-- The eleven states (R96). -/
inductive PathState where
  | unconfigured
  | linking
  | standby
  | run
  | decide
  | runout
  | stopping
  | held
  | clearing
  | verify
  | lockout
deriving DecidableEq, Repr

/-- The Path State Controller's items but for its counter (R97), and whether another party holds HALT_N (R98). -/
structure PathController where
  state : PathState
  epoch : Byte
  hold : Bool
  drv : Bool
  decideTimer : Option Tick
  stopSettle : Option Tick
  coverSettle : Option Tick
  lineHigh : Bool
  othersHold : Bool
deriving DecidableEq, Repr

/-! ## Census (chapter 8) -/

/-- The fate of a sheet in the census (R133). -/
inductive Fate where
  | notFed
  | stranded
  | unconfirmed
  | delivered
deriving DecidableEq, Repr

/-- One census entry (R134). -/
structure CensusEntry where
  tag : SheetTag
  fate : Fate
  leadIndex : Nat
  trailIndex : Nat
  jamFlag : Bool
deriving DecidableEq, Repr

/-- The census header but for the entry count and the part number and count, which the entries give (R135, R137). -/
structure CensusHeader where
  epoch : Byte
  rank : Nat
  cause : Option Cause
  kind : Option JamKind
  laterSet : KindSet
  lastDelivered : Option SheetTag
  covered : SensorSet
  lockout : Bool
deriving DecidableEq, Repr

/-- A formed census (R131). -/
structure Census where
  header : CensusHeader
  entries : List CensusEntry
deriving DecidableEq, Repr

/-! ## Counters (R155) -/

/-- The eleven counters, in the order of R155. -/
structure Counters where
  delivered : Count
  passed : Count
  slip : Count
  chatter : Count
  receiveError : Count
  transmitRetry : Count
  transmitDiscard : Count
  reportDrop : Count
  refused : Count
  residue : Count
  clamp : Count
deriving DecidableEq, Repr

/-! ## The Link Controller (chapter 9) -/

/-- The reason of a refused LAUNCH (R62). -/
inductive RefuseReason where
  | notRun
  | notFeed
  | tableFull
  | duplicate
deriving DecidableEq, Repr

/-- A notice and what it carries (chapter 11.5). -/
inductive Notice where
  | slip (sheet : SheetId) (sensor : Nat) (deviation : Int)
  | traceLead (sheet : SheetId) (sensor : Nat) (deviation : Int)
  | traceTrail (sheet : SheetId) (sensor : Nat) (length : Nat)
  | refused (sheet : SheetId) (reason : RefuseReason)
  | clear (epoch : Byte) (removed : Nat) (entered : PathState)
  | residue (epoch : Byte) (found : PathState) (covered : SensorSet)
deriving DecidableEq, Repr

/-- A JAM frame's contents (R88). -/
structure JamContents where
  report : JamReport
  rank : Nat
  epoch : Byte
deriving DecidableEq, Repr

/-- A HELLO's contents (R160). -/
structure HelloContents where
  fresh : Bool
  configured : Bool
  rank : Nat
  roles : Roles
  sensorCount : Nat
  exitB : Bool
deriving DecidableEq, Repr

/-- One part of a census as queued (R137, R171). -/
structure CensusPart where
  header : CensusHeader
  total : Nat
  number : Nat
  parts : Nat
  entries : List CensusEntry
deriving DecidableEq, Repr

/-- A STATUS frame as built at its QUERY (R154). -/
structure StatusContents where
  state : PathState
  epoch : Byte
  recordCount : Nat
  capture : Option Capture
  laterSet : KindSet
  laterCount : Nat
  highestRank : Nat
  currentSpeed : Option Nat
  pendingSpeed : Option Nat
  configured : Vector Bool 14
  levels : Vector Level 4
  cover : CoverLevel
  lineHigh : Bool
  counters : Counters
deriving DecidableEq, Repr

/-- The type and contents of a queued frame (R149); a HANDOFF keeps its exit lead capture (R31). -/
inductive Body where
  | jam (c : JamContents)
  | handoff (tag : SheetTag) (exitCapture : Tick)
  | taken (sheet : SheetId)
  | hello (c : HelloContents)
  | census (c : CensusPart)
  | notice (c : Notice)
  | status (c : StatusContents)
deriving DecidableEq, Repr

/-- An entry of a transmit queue (R149). -/
structure Entry where
  dest : Nat
  body : Body
  retry : Nat
  started : Bool
deriving DecidableEq, Repr

/-- The three transmit queues (R149). -/
inductive QueueClass where
  | urgent
  | path
  | report
deriving DecidableEq, Repr

/-- The attempt in progress: the class of its frame, which is the head of that queue, and the characters it sends, the
first of them marked (R144, R151). -/
structure Attempt where
  cls : QueueClass
  bytes : List Byte
deriving DecidableEq, Repr

/-- The condition of the receive assembler (R145). -/
inductive Assembler where
  | waiting
  | taking
  | passing
deriving DecidableEq, Repr

/-- The Link Controller's items but for its counters (chapter 9). -/
structure Link where
  urgent : List Entry
  path : List Entry
  report : List Entry
  attempt : Option Attempt
  txEnable : Bool
  assembler : Assembler
  collecting : List Byte
  idleCount : Nat
  /-- Crystal periods into the present character time, counted from the end of the last stop bit seen (R144). -/
  charClock : Nat
deriving DecidableEq, Repr

/-! ## The station -/

/-- The whole state of the station. -/
structure State where
  /-- RST_N is low, or the internal reset has not ended. -/
  inReset : Bool
  window : WindowUnit
  front : FrontEnd
  tracker : Tracker
  jam : JamMonitor
  path : PathController
  setup : SetupUnit
  census : Option Census
  link : Link
  counters : Counters
  /-- How many orders of events due together have been drawn: the argument of `Config.eventOrder` (DESIGN CHOICE, log
  2). -/
  eventsDrawn : Nat
  /-- The commands that wait, first in first out. -/
  pending : List Instr
deriving DecidableEq, Repr

/-- The manual names no condition in which the station stops with a fault: no command raises one. -/
inductive Fault where
deriving DecidableEq, Repr

/-- Why a command is refused by the model. -/
inductive Refusal where
  /-- A command without a meaning yet, raised by an arm of `exec` alone; no arm raises it. Safe. -/
  | notModelled (mnemonic : String)
deriving DecidableEq, Repr

/-! ## Reset values -/

/-- No role (R159). -/
def noRoles : Roles :=
  { feed := false, delivery := false, loop := false, runout := false, flip := false }

/-- A roster entry at hardware reset (R159). -/
def RosterEntry.blank : RosterEntry :=
  { configured := false, rank := 0, roles := noRoles }

/-- A sensor before its first sample. DESIGN CHOICE (log 8): CLEAR, until RESET_RELEASE takes the sample of R41. -/
def Sensor.blank : Sensor :=
  { pin := .clear, mode := .followed, stable := .clear, candidate := none }

/-- The cover switch before its first sample. DESIGN CHOICE (log 8): OPEN, until RESET_RELEASE takes the sample of R41.
-/
def Cover.blank : Cover :=
  { pin := .opened, level := .opened, candidate := none }

/-- The Jam Monitor's items when cleared (R94). -/
def JamMonitor.clear : JamMonitor :=
  { capture := none, laterSet := 0, laterCount := 0, highestRank := 0, jamSent := false }

/-- Every counter 0 (R155). -/
def Counters.zero : Counters :=
  { delivered := 0, passed := 0, slip := 0, chatter := 0, receiveError := 0, transmitRetry := 0, transmitDiscard := 0,
    reportDrop := 0, refused := 0, residue := 0, clamp := 0 }

/-- The Link Controller at hardware reset (R156). -/
def Link.empty : Link :=
  { urgent := [], path := [], report := [], attempt := none, txEnable := false, assembler := .waiting,
    collecting := [], idleCount := 0, charClock := 0 }

/-- The Path Tracker's items at hardware reset and RESTART (R17, R18, R19, R58). -/
def Tracker.empty : Tracker :=
  { table := [], runOut := [], lastDelivered := none, gate := .a }

/-- The machine right after reset, RST_N still low: every item at the value the table of 10.2 gives it. The straps and
the input levels are not sampled yet (DESIGN CHOICE, log 8), and the tick and the character time begin here (DESIGN
CHOICE, log 22); the line is low by this station's own hold (DEDUCED, log 9). -/
def State.reset : State :=
  { inReset := true
    window := { timeBase := 0, crystal := 0, currentSpeed := none, pendingSpeed := none }
    front := { sensors := Vector.replicate 4 Sensor.blank, cover := Cover.blank }
    tracker := Tracker.empty
    jam := JamMonitor.clear
    path :=
      { state := .unconfigured, epoch := 0, hold := true, drv := false, decideTimer := none, stopSettle := none,
        coverSettle := none, lineHigh := false, othersHold := false }
    setup := { straps := 0, profile := none, roster := Vector.replicate 14 RosterEntry.blank }
    census := none
    link := Link.empty
    counters := Counters.zero
    eventsDrawn := 0
    pending := [] }

end Sys2Proof.Machine
end

