-- ==== Sys2Proof/Machine/Ops.lean ====
section
/-! DEFINITION. The shared operations on the station's items: ticks, counters, block updates, the Sheet Table as a list,
the roster, and the requests to queue a frame (R149). -/

namespace Sys2Proof.Machine

/-! ## Ticks (chapter 0, Conventions) -/

/-- Deadline `d` is reached at tick `t`: (t - d) mod 65536 lies between 0 and 32767. -/
def reached (t d : Tick) : Bool :=
  decide ((t - d).toNat ≤ 32767)

/-- Capture `c` is before bound `e`: (e - c) mod 65536 lies between 1 and 32767. -/
def before (c e : Tick) : Bool :=
  decide (1 ≤ (e - c).toNat) && decide ((e - c).toNat ≤ 32767)

/-- A tick value plus an offset, mod 65536. -/
def tickPlus (t : Tick) (offset : Nat) : Tick :=
  t + BitVec.ofNat 16 offset

/-- A value clamped to lo..hi. -/
def clampTo (lo hi v : Nat) : Nat :=
  max lo (min hi v)

/-! ## Fixed numbers of the manual -/

/-- The capacity of the Sheet Table (R8) and of the run-out list (R18). -/
def tableCapacity : Nat := 8

/-- The depth of a transmit queue (R149). -/
def queueDepth : QueueClass → Nat
  | .urgent => 2
  | .path => 8
  | .report => 6

/-- The number of a broadcast destination (chapter 0). -/
def broadcast : Nat := 15

/-- The number of the job station (chapter 0). -/
def jobStation : Nat := 0

/-! ## Updates of one block -/

/-- Changes the Window Unit. -/
def State.updWindow (s : State) (f : WindowUnit → WindowUnit) : State := { s with window := f s.window }

/-- Changes the Sensor Front End. -/
def State.updFront (s : State) (f : FrontEnd → FrontEnd) : State := { s with front := f s.front }

/-- Changes the Path Tracker. -/
def State.updTracker (s : State) (f : Tracker → Tracker) : State := { s with tracker := f s.tracker }

/-- Changes the Jam Monitor. -/
def State.updJam (s : State) (f : JamMonitor → JamMonitor) : State := { s with jam := f s.jam }

/-- Changes the Path State Controller. -/
def State.updPath (s : State) (f : PathController → PathController) : State := { s with path := f s.path }

/-- Changes the Setup and Roster Unit. -/
def State.updSetup (s : State) (f : SetupUnit → SetupUnit) : State := { s with setup := f s.setup }

/-- Changes the Census Unit. -/
def State.setCensus (s : State) (c : Option Census) : State := { s with census := c }

/-- Changes the Link Controller. -/
def State.updLink (s : State) (f : Link → Link) : State := { s with link := f s.link }

/-- Changes the counters. -/
def State.updCounters (s : State) (f : Counters → Counters) : State := { s with counters := f s.counters }

/-! ## Counters (R155) -/

/-- The names of the eleven counters. -/
inductive Counter where
  | delivered
  | passed
  | slip
  | chatter
  | receiveError
  | transmitRetry
  | transmitDiscard
  | reportDrop
  | refused
  | residue
  | clamp
deriving DecidableEq, Repr

/-- A counter raised `n` times: it stays at 65535 when it gets there (R155). -/
def raised (c : Count) (n : Nat) : Count :=
  BitVec.ofNat 16 (min 65535 (c.toNat + n))

/-- The counters with one of them raised `n` times. -/
def raiseCounter (c : Counter) (n : Nat) (k : Counters) : Counters :=
  match c with
  | .delivered => { k with delivered := raised k.delivered n }
  | .passed => { k with passed := raised k.passed n }
  | .slip => { k with slip := raised k.slip n }
  | .chatter => { k with chatter := raised k.chatter n }
  | .receiveError => { k with receiveError := raised k.receiveError n }
  | .transmitRetry => { k with transmitRetry := raised k.transmitRetry n }
  | .transmitDiscard => { k with transmitDiscard := raised k.transmitDiscard n }
  | .reportDrop => { k with reportDrop := raised k.reportDrop n }
  | .refused => { k with refused := raised k.refused n }
  | .residue => { k with residue := raised k.residue n }
  | .clamp => { k with clamp := raised k.clamp n }

/-- A counter goes up `n` times. -/
def State.countBy (s : State) (c : Counter) (n : Nat) : State :=
  s.updCounters (raiseCounter c n)

/-- A counter goes up by one. -/
def State.count (s : State) (c : Counter) : State :=
  s.countBy c 1

/-- A counter goes up by one when `b` holds. -/
def State.countIf (s : State) (b : Bool) (c : Counter) : State :=
  if b then s.count c else s

/-! ## Reading the station -/

/-- The present tick (R21). -/
def State.now (s : State) : Tick :=
  s.window.timeBase

/-- The strap fault mark: the straps read 0 or 15 (R158). -/
def State.strapFault (s : State) : Bool :=
  s.setup.straps == 0 || s.setup.straps == 15

/-- The station number: the straps read, or none with a strap fault (R158). -/
def State.stationNumber (s : State) : Option Nat :=
  if s.strapFault then none else some s.setup.straps.toNat

/-- What stands for the profile where none is present: every use of a profile value finds none (R159). -/
def Profile.blank : Profile :=
  { rank := 0, roles := noRoles, upA := 0, upB := 0, bridgeA := 0, bridgeB := 0, exitA := 0, exitB := 0, reachA := 0,
    reachB := 0, divert := none, n := 0, positions := [], modes := [], filter := 0, anchoring := .anchored, speed := 0,
    tolPct := 0, slack := 0, lenTol := 0, linkAllow := 0, pickDelay := 0, stopSettle := 0, coverSettle := 0,
    escalation := .fold, report := .none }

/-- The profile, or the blank one where it is absent (DESIGN CHOICE, log 14). -/
def State.prof (s : State) : Profile :=
  s.setup.profile.getD Profile.blank

/-- The speed at which windows are computed: the current speed (R23, R35). -/
def State.speedNow (s : State) : Nat :=
  s.window.currentSpeed.getD 0

/-- The stable level of sensor `k`. -/
def State.stableLevel (s : State) (k : Nat) : Level :=
  (s.front.sensors.toList.getD k Sensor.blank).stable

/-- Changes sensor `k`. -/
def State.updSensor (s : State) (k : Fin 4) (f : Sensor → Sensor) : State :=
  s.updFront fun e => { e with sensors := e.sensors.set k (f e.sensors[k]) }

/-- Changes the cover switch's items. -/
def State.updCover (s : State) (f : Cover → Cover) : State :=
  s.updFront fun e => { e with cover := f e.cover }

/-- The roster entry of station `n`, 1 to 14. -/
def State.rosterEntry (s : State) (n : Nat) : RosterEntry :=
  s.setup.roster.toList.getD (n - 1) RosterEntry.blank

/-- Replaces the roster entry of station `n`, 1 to 14. -/
def State.setRosterEntry (s : State) (n : Nat) (e : RosterEntry) : State :=
  s.updSetup fun u => { u with roster := u.roster.setIfInBounds (n - 1) e }

/-- The stations the profile names as upstream A, upstream B, exit A station or exit B station (R80, R102). -/
def Profile.neighbours (p : Profile) : List Nat :=
  [p.upA, p.upB, p.exitA, p.exitB].filter (· ≠ 0)

/-- The position of sensor `k`, in dmm; sensor 0 stands at 0 (R166). -/
def Profile.position (p : Profile) (k : Nat) : Nat :=
  p.positions.getD k 0

/-- The station the profile names for an exit (R65). -/
def Profile.exitStation (p : Profile) : Exit → Nat
  | .a => p.exitA
  | .b => p.exitB

/-- The distance of the entry window by source (R26). -/
def Profile.entryDistance (p : Profile) : Source → Nat
  | .launch => p.bridgeA
  | .upA => p.bridgeA
  | .upB => p.bridgeB

/-- The reach toward an exit (R29). -/
def Profile.reach (p : Profile) : Exit → Nat
  | .a => p.reachA
  | .b => p.reachB

/-! ## The Sheet Table as a list (R8, R9) -/

/-- Changes the first member of a list that satisfies `p`. -/
def updateFirst {α : Type} (p : α → Bool) (f : α → α) : List α → List α
  | [] => []
  | x :: xs => if p x then f x :: xs else x :: updateFirst p f xs

/-- A record is of a sheet id. -/
def Record.isSheet (id : SheetId) (r : Record) : Bool :=
  r.tag.sheetId == id

/-- A record stands in the INBOUND part (R9). -/
def Record.isInbound (r : Record) : Bool :=
  r.phase == .inbound

/-- Places a new INBOUND record before the first INBOUND record whose expected entry tick is after its own (R9). -/
def insertInbound (r : Record) : List Record → List Record
  | [] => [r]
  | x :: xs =>
    if x.isInbound && before r.expectedEntry x.expectedEntry then r :: x :: xs else x :: insertInbound r xs

/-- Places a record at the end of the resident part, before the INBOUND part (R9). -/
def insertResident (r : Record) (table : List Record) : List Record :=
  table.takeWhile (fun x => !x.isInbound) ++ r :: table.dropWhile (fun x => !x.isInbound)

/-- The record of a sheet id. -/
def State.findSheet (s : State) (id : SheetId) : Option Record :=
  s.tracker.table.find? (Record.isSheet id)

/-- Changes the Sheet Table. -/
def State.updTable (s : State) (f : List Record → List Record) : State :=
  s.updTracker fun k => { k with table := f k.table }

/-- A record with every deadline disarmed (R110, R111): the early and expected ticks stay (R5). -/
def Record.disarmed (r : Record) : Record :=
  { r with
    leadWindow := r.leadWindow.map fun w => { w with due := none }
    trailWindow := r.trailWindow.map fun w => { w with due := none }
    takeDue := none }

/-- A record at RUNOUT entry: the entry lead deadline of an INBOUND record is disarmed (R121). -/
def Record.atRunout (r : Record) : Record :=
  if r.isInbound then { r with leadWindow := r.leadWindow.map fun w => { w with due := none } } else r

/-! ## Requests to queue a frame (R149) -/

/-- A queue of the Link Controller. -/
def Link.queue (l : Link) : QueueClass → List Entry
  | .urgent => l.urgent
  | .path => l.path
  | .report => l.report

/-- Replaces a queue of the Link Controller. -/
def Link.setQueue (l : Link) (c : QueueClass) (q : List Entry) : Link :=
  match c with
  | .urgent => { l with urgent := q }
  | .path => { l with path := q }
  | .report => { l with report := q }

/-- A frame as it is queued: never tried, not started. -/
def newEntry (dest : Nat) (body : Body) : Entry :=
  { dest := dest, body := body, retry := 0, started := false }

/-- A queue holds its depth (R149). -/
def State.queueFull (s : State) (c : QueueClass) : Bool :=
  decide (queueDepth c ≤ (s.link.queue c).length)

/-- A frame joins at the end of its queue (R149). -/
def State.append (s : State) (c : QueueClass) (e : Entry) : State :=
  s.updLink fun l => l.setQueue c (l.queue c ++ [e])

/-- A request to queue a JAM, or a REPORT frame other than a CENSUS part: a full queue drops the new frame and counts it
(R149); with a strap fault the request is discarded without a count (R156). -/
def State.request (s : State) (c : QueueClass) (dest : Nat) (body : Body) : State :=
  if s.strapFault then s
  else if s.queueFull c then s.count .reportDrop
  else s.append c (newEntry dest body)

/-- A notice, HELLO or STATUS is queued in REPORT. -/
def State.requestReport (s : State) (dest : Nat) (body : Body) : State :=
  s.request .report dest body

/-- The LINK report of R79: no sensor and no sheet id. -/
def linkReport : JamReport :=
  { kind := .link, sensor := none, sheetId := none }

/-- A request to queue a HANDOFF or TAKEN: a full PATH queue does not take the frame, and is an own LINK jam (R79). -/
def State.requestPath (s : State) (dest : Nat) (body : Body) : State × List JamReport :=
  if s.strapFault then (s, [])
  else if s.queueFull .path then (s, [linkReport])
  else (s.append .path (newEntry dest body), [])

/-- An entry is a CENSUS part. -/
def Entry.isCensus (e : Entry) : Bool :=
  match e.body with
  | .census _ => true
  | .jam _ | .handoff _ _ | .taken _ | .hello _ | .notice _ | .status _ => false

/-- An entry is a HANDOFF. -/
def Entry.isHandoff (e : Entry) : Bool :=
  match e.body with
  | .handoff _ _ => true
  | .jam _ | .taken _ | .hello _ | .census _ | .notice _ | .status _ => false

/-- An entry a CENSUS part may evict: not a CENSUS part, its first character not gone out (R137). -/
def Entry.evictable (e : Entry) : Bool :=
  !e.isCensus && !e.started

/-- A queue without its newest member that satisfies `p`. -/
def eraseNewest (p : Entry → Bool) (q : List Entry) : List Entry :=
  (q.reverse.eraseP p).reverse

/-- A request to queue a CENSUS part (R137). -/
def State.requestCensusPart (s : State) (part : CensusPart) : State :=
  let e := newEntry jobStation (.census part)
  if s.strapFault then s
  else if !s.queueFull .report then s.append .report e
  else if s.link.report.any Entry.evictable then
    (s.updLink fun l => { l with report := eraseNewest Entry.evictable l.report ++ [e] }).count .reportDrop
  else s.count .reportDrop

/-- The HANDOFF flush: every HANDOFF not started leaves the PATH queue, uncounted (R107, R153). -/
def State.flushHandoffs (s : State) : State :=
  s.updLink fun l => { l with path := l.path.filter fun e => !(e.isHandoff && !e.started) }

/-! ## Speed (R35, R37) -/

/-- The table-empty signal: a present pending speed becomes the current speed (R37). -/
def State.tableEmptySignal (s : State) : State :=
  match s.window.pendingSpeed with
  | none => s
  | some v => s.updWindow fun w => { w with currentSpeed := some v, pendingSpeed := none }

/-! ## Reset -/

/-- A command acts while the station is out of reset; in reset the station takes no sample and receives no frame, and
the command leaves the state as it is (DESIGN CHOICE, log 8). -/
def whileRunning (s : State) (f : State → State) : Host.Outcome State Fault Refusal :=
  .next (if s.inReset then s else f s)

end Sys2Proof.Machine
end

