-- ==== Sys2Proof/Machine/Flags.lean ====
section
/-! DEFINITION. The conditions and sets the station computes from its items: what a state holds and drives, which states
match edges and arm deadlines, the conditions of LINKING and of HELD, and run-out eligibility. -/

namespace Sys2Proof.Machine

/-! ## Outputs (R96) -/

/-- The states in which HALT_N is held: every state other than RUN and STANDBY. -/
def holdsLine : PathState → Bool
  | .run => false
  | .standby => false
  | .unconfigured | .linking | .decide | .runout | .stopping | .held | .clearing | .verify | .lockout => true

/-- The states in which the drive may run. -/
def drivingState : PathState → Bool
  | .run => true
  | .decide => true
  | .runout => true
  | .unconfigured | .linking | .standby | .stopping | .held | .clearing | .verify | .lockout => false

/-- DRV is on in a driving state while the debounced cover level is CLOSED. -/
def drives (st : PathState) (cover : CoverLevel) : Bool :=
  drivingState st && cover == .closed

/-- The GATE pin: low for A, high for B (R58). -/
def gatePin (s : State) : Bool :=
  s.tracker.gate == .b

/-- The level of HALT_N at a sample: high only while this station and every other party release it (R98). -/
def State.lineSample (s : State) : Bool :=
  !s.path.hold && !s.path.othersHold

/-! ## What the states do with events -/

/-- The states in which the Path Tracker matches edges and records are created (R43, R69, R82). -/
def matchingState : PathState → Bool
  | .run => true
  | .decide => true
  | .runout => true
  | .stopping => true
  | .unconfigured | .linking | .standby | .held | .clearing | .verify | .lockout => false

/-- The states in which the Path Tracker acts on expiries (R43) and arms what it computes (R29, R45). -/
def armingState : PathState → Bool
  | .run => true
  | .decide => true
  | .runout => true
  | .unconfigured | .linking | .standby | .stopping | .held | .clearing | .verify | .lockout => false

/-- The states in which an entry deadline is stored armed (R13). -/
def armsEntry : PathState → Bool
  | .run => true
  | .decide => true
  | .unconfigured | .linking | .standby | .runout | .stopping | .held | .clearing | .verify | .lockout => false

/-! ## Sensors -/

/-- The sensors 0 to n - 1 whose stable level is COVERED (R112, R135). -/
def State.coveredSet (s : State) : SensorSet :=
  let bit (k : Nat) : BitVec 4 :=
    if k < s.prof.n ∧ s.stableLevel k = .covered then BitVec.twoPow 4 k else 0
  bit 0 ||| bit 1 ||| bit 2 ||| bit 3

/-- Sensors 0 to n - 1 are all CLEAR (R102, R113, R115). -/
def State.sensorsClear (s : State) : Bool :=
  (List.range s.prof.n).all fun k => s.stableLevel k == .clear

/-! ## Neighbours -/

/-- Every station the profile names has a roster entry marked configured (R102). -/
def State.neighboursKnown (s : State) : Bool :=
  s.prof.neighbours.all fun n => (s.rosterEntry n).configured

/-- The three conditions of R102. -/
def State.readyForStandby (s : State) : Bool :=
  s.neighboursKnown && s.front.cover.level == .closed && s.sensorsClear

/-! ## Records -/

/-- Some record is RESIDENT or OUTBOUND: the record condition of R109 fails. -/
def State.holdsSheets (s : State) : Bool :=
  s.tracker.table.any fun r => !r.isInbound

/-- A record spans the gate: it has reached the exit sensor and has not cleared it (R58). -/
def Record.spans (n : Nat) (r : Record) : Bool :=
  r.leadIndex == n && decide (r.trailIndex < n)

/-- The gate target: the exit of the oldest record with lead index below n, or the current position (R59). -/
def State.gateTarget (s : State) : Exit :=
  match s.tracker.table.find? fun r => decide (r.leadIndex < s.prof.n) with
  | some r => r.exit
  | none => s.tracker.gate

/-- Judges the gate: with no record spanning it, the target becomes the position (R59). -/
def State.judgeGate (s : State) : State :=
  if s.tracker.table.any (Record.spans s.prof.n) then s
  else s.updTracker fun k => { k with gate := s.gateTarget }

/-! ## Run-out eligibility (R119, R120) -/

/-- The downstream test (R120). -/
def State.downstreamRuns (s : State) : Bool :=
  let p := s.prof
  let e := s.rosterEntry p.exitA
  p.roles.delivery ||
    (decide (1 ≤ p.exitA) && decide (p.exitA ≤ 14) && e.configured && e.roles.runout && !e.roles.loop
      && decide (s.jam.highestRank < e.rank))

/-- The five conditions of R119. -/
def State.eligible (s : State) : Bool :=
  let p := s.prof
  s.front.cover.level == .closed
    && (p.roles.runout && !p.roles.loop)
    && (decide (0 < s.jam.highestRank) && decide (s.jam.highestRank < p.rank))
    && s.tracker.table.all (fun r => r.isInbound || r.exit == .a)
    && s.downstreamRuns

end Sys2Proof.Machine
end

