-- ==== Sys2Proof/Machine/Operands.lean ====
section
/-! DEFINITION. Reading what a frame carries: codes that name no value (R170), tags and their lengths (R2), JAM fields
(R89), and SETUP's structural faults and clamping (R164, R165). -/

namespace Sys2Proof.Machine

/-! ## Sheet tags -/

/-- A side code: 0 SIMPLEX, 1 FRONT, 2 BACK, and 3 is read as SIMPLEX (R170). -/
def sideOfCode (code : BitVec 2) : Side :=
  if code == 1 then .front else if code == 2 then .back else .simplex

/-- A side is a member of a set of sides (R11). -/
def sideIn (d : SideSet) : Side → Bool
  | .simplex => d.simplex
  | .front => d.front
  | .back => d.back

/-- A received tag as a record stores it: its length clamped to 1000..6000 (R2). -/
def storedTag (t : WireTag) : SheetTag :=
  { sheetId := t.sheetId, job := t.job, page := t.page, side := sideOfCode t.side,
    length := clampTo 1000 6000 t.length.toNat, heavy := t.heavy }

/-- The tag's length is clamped at creation, which counts once (R2). -/
def lengthClamped (t : WireTag) : Bool :=
  clampTo 1000 6000 t.length.toNat != t.length.toNat

/-- The age field as read: above 30000 it is 30000 (R31). -/
def ageRead (age : BitVec 16) : Nat :=
  min 30000 age.toNat

/-- The exit of a new record (R11). -/
def exitFor (p : Profile) (side : Side) : Exit :=
  if p.exitB = 0 then .a
  else
    match p.divert with
    | some d => if sideIn d side then .b else .a
    | none => .a

/-- The source of a record announced from a station: upstream A's number first, so that one station named as both
upstreams gives UP_A; a profile value of 0 names none (R68). -/
def upstreamOf (p : Profile) (source : Nat) : Option Source :=
  if source = 0 then none
  else if source = p.upA then some .upA
  else if source = p.upB then some .upB
  else none

/-! ## JAM frames -/

/-- The jam kind codes (chapter 11.2). -/
def kindCode : JamKind → Nat
  | .late => 1
  | .early => 2
  | .stall => 3
  | .short => 4
  | .stray => 5
  | .gate => 6
  | .handoff => 7
  | .tableFull => 8
  | .duplicate => 9
  | .link => 10
  | .cover => 11
  | .peer => 12

/-- The twelve kinds in the order of their codes. -/
def jamKinds : List JamKind :=
  [.late, .early, .stall, .short, .stray, .gate, .handoff, .tableFull, .duplicate, .link, .cover, .peer]

/-- The kind a code names; a code outside 1 to 12 names none. -/
def kindOfCode (code : Nat) : Option JamKind :=
  jamKinds.find? fun k => kindCode k == code

/-- The member of a kind set that stands for a kind: bit k - 1 for code k (chapter 11.2). -/
def kindBit (k : JamKind) : KindSet :=
  BitVec.twoPow 12 (kindCode k - 1)

/-- A sensor byte: 0 to 3 name a sensor, any other value none (R170). -/
def sensorOfByte (b : Byte) : Option Nat :=
  if b.toNat ≤ 3 then some b.toNat else none

/-- The report a JAM frame carries, where its kind is one of the twelve and its rank lies in 1..14 (R89). -/
def jamRead (f : JamFrame) : Option JamContents :=
  match kindOfCode f.kind.toNat with
  | none => none
  | some k =>
    if 1 ≤ f.rank.toNat ∧ f.rank.toNat ≤ 14 then
      some
        { report := { kind := k, sensor := sensorOfByte f.sensor, sheetId := if f.noSheet then none else some f.sheetId }
          rank := f.rank.toNat
          epoch := f.epoch }
    else none

/-! ## HELLO -/

/-- A HELLO rank above 14 is read as 0 (R170). -/
def helloRank (b : Byte) : Nat :=
  if b.toNat ≤ 14 then b.toNat else 0

/-! ## SETUP -/

/-- The structural faults of R164. -/
inductive SetupFault where
  | sensorCount
  | positions
  | rank
  | neighbour
  | exitBWithoutDivert
  | feedWithoutBridgeA
  | deliveryWithExitA
  | undefinedMode
deriving DecidableEq, Repr

/-- The positions of sensors 1 to n - 1 as received (R164: those of n and above are not examined). -/
def setupPositions (f : SetupFrame) : List Nat :=
  [f.pos1.toNat, f.pos2.toNat, f.pos3.toNat].take (f.n.toNat - 1)

/-- The filter mode codes of sensors 0 to n - 1 as received. -/
def setupModes (f : SetupFrame) : List (BitVec 2) :=
  [f.mode0, f.mode1, f.mode2, f.mode3].take f.n.toNat

/-- Strictly increasing from a first value. -/
def increasingFrom (first : Nat) : List Nat → Bool
  | [] => true
  | x :: xs => decide (first < x) && increasingFrom x xs

/-- A SETUP meets a structural fault, at a station of number `own` (R164). -/
def setupFaultHolds (own : Nat) (f : SetupFrame) : SetupFault → Bool
  | .sensorCount => !(decide (1 ≤ f.n.toNat) && decide (f.n.toNat ≤ 4))
  | .positions => !(increasingFrom 0 (setupPositions f) && (setupPositions f).all fun x => decide (x ≤ 20000))
  | .rank => !(decide (1 ≤ f.rank.toNat) && decide (f.rank.toNat ≤ 14))
  | .neighbour => [f.upA, f.upB, f.exitA, f.exitB].any fun x => x.toNat == 15 || x.toNat == own
  | .exitBWithoutDivert => f.exitB != 0 && !f.divertPresent
  | .feedWithoutBridgeA => f.roles.feed && f.bridgeA == 0
  | .deliveryWithExitA => f.roles.delivery && f.exitA != 0
  | .undefinedMode =>
    decide (1 < f.anchoring.toNat) || decide (1 < f.escalation.toNat) || decide (2 < f.report.toNat)
      || (setupModes f).any fun m => decide (1 < m.toNat)

/-- The eight faults of R164. -/
def setupFaults : List SetupFault :=
  [.sensorCount, .positions, .rank, .neighbour, .exitBWithoutDivert, .feedWithoutBridgeA, .deliveryWithExitA,
    .undefinedMode]

/-- A SETUP with any structural fault (R163). -/
def setupFaulty (own : Nat) (f : SetupFrame) : Bool :=
  setupFaults.any (setupFaultHolds own f)

/-- The filter mode of a code (chapter 11.3). -/
def filterModeOf (code : BitVec 2) : FilterMode :=
  if code == 1 then .raw else .filtered

/-- The profile of an accepted SETUP, its numeric fields clamped (R165, R166). Bridge B without upstream B and reach B
without exit B are not stored (R164), and stand as 0 (DESIGN CHOICE, log 13). -/
def profileOf (f : SetupFrame) : Profile :=
  { rank := f.rank.toNat
    roles := f.roles
    upA := f.upA.toNat
    upB := f.upB.toNat
    bridgeA := f.bridgeA.toNat
    bridgeB := if f.upB == 0 then 0 else f.bridgeB.toNat
    exitA := f.exitA.toNat
    exitB := f.exitB.toNat
    reachA := f.reachA.toNat
    reachB := if f.exitB == 0 then 0 else f.reachB.toNat
    divert := if f.divertPresent then some f.divert else none
    n := f.n.toNat
    positions := 0 :: setupPositions f
    modes := (setupModes f).map filterModeOf
    filter := clampTo 1 15 f.filter.toNat
    anchoring := if f.anchoring == 1 then .nominal else .anchored
    speed := clampTo 50 1600 f.speed.toNat
    tolPct := clampTo 0 50 f.tolPct.toNat
    slack := clampTo 0 500 f.slack.toNat
    lenTol := clampTo 0 500 f.lenTol.toNat
    linkAllow := clampTo 0 500 f.linkAllow.toNat
    pickDelay := clampTo 0 2000 f.pickDelay.toNat
    stopSettle := clampTo 20 2000 f.stopSettle.toNat
    coverSettle := clampTo 50 5000 f.coverSettle.toNat
    escalation := if f.escalation == 1 then .lockout else .fold
    report := if f.report == 1 then .slip else if f.report == 2 then .trace else .none }

/-- How many of SETUP's numeric fields are clamped: each counts one (R165). -/
def setupClamps (f : SetupFrame) : Nat :=
  [(50, 1600, f.speed.toNat), (0, 50, f.tolPct.toNat), (0, 500, f.slack.toNat), (0, 500, f.lenTol.toNat),
    (0, 500, f.linkAllow.toNat), (20, 2000, f.stopSettle.toNat), (50, 5000, f.coverSettle.toNat),
    (1, 15, f.filter.toNat), (0, 2000, f.pickDelay.toNat)].countP
    fun c => clampTo c.1 c.2.1 c.2.2 != c.2.2

/-- The treatment of an input under a profile (R38). -/
def inputModeOf (p : Profile) (k : Nat) : InputMode :=
  if k < p.n then
    match p.modes[k]? with
    | some .filtered => .filtered
    | some .raw => .raw
    | none => .followed
  else .followed

end Sys2Proof.Machine
end

