-- ==== Sys2Proof/Machine/CensusUnit.lean ====
section
/-! DEFINITION. The census: the dropping step, its forming, its parts and their queuing (chapter 8). -/

namespace Sys2Proof.Machine

/-- A record the dropping step removes: INBOUND from an upstream, or OUTBOUND with taken yes (R132). -/
def Record.dropped (r : Record) : Bool :=
  (r.phase == .inbound && r.source != .launch) || (r.phase == .outbound && r.taken == some true)

/-- The fate of a record present at forming (R133). -/
def fateOf (r : Record) : Fate :=
  match r.phase with
  | .inbound => .notFed
  | .resident => .stranded
  | .outbound => if r.outputBound == some true then .stranded else .unconfirmed

/-- The sheet id of the jam capture, where it has one. -/
def State.captureSheet (s : State) : Option SheetId :=
  s.jam.capture.bind fun c => c.sheetId

/-- The entry of a record (R133, R134). -/
def State.recordEntry (s : State) (r : Record) : CensusEntry :=
  { tag := r.tag, fate := fateOf r, leadIndex := r.leadIndex, trailIndex := r.trailIndex,
    jamFlag := s.captureSheet == some r.tag.sheetId }

/-- The entry of a run-out list tag (R133, R134). -/
def State.deliveredEntry (s : State) (t : SheetTag) : CensusEntry :=
  { tag := t, fate := .delivered, leadIndex := s.prof.n, trailIndex := s.prof.n,
    jamFlag := s.captureSheet == some t.sheetId }

/-- The census formed now: the records the dropping step does not remove, in table order, then the run-out list (R133
to R136, R138). After the dropping step no record is passed over. -/
def State.formCensus (s : State) (lockout : Bool) : Census :=
  { header :=
      { epoch := s.path.epoch
        rank := s.prof.rank
        cause := s.jam.capture.map fun c => c.cause
        kind := s.jam.capture.bind fun c => c.kind
        laterSet := s.jam.laterSet
        lastDelivered := s.tracker.lastDelivered
        covered := s.coveredSet
        lockout := lockout }
    entries :=
      (s.tracker.table.filter fun r => !r.dropped).map s.recordEntry ++ s.tracker.runOut.map s.deliveredEntry }

/-- The parts of a census: one of up to 8 entries, or two (R137). -/
def censusParts (c : Census) : List CensusPart :=
  let total := c.entries.length
  if total ≤ 8 then [{ header := c.header, total := total, number := 1, parts := 1, entries := c.entries }]
  else
    [{ header := c.header, total := total, number := 1, parts := 2, entries := c.entries.take 8 },
      { header := c.header, total := total, number := 2, parts := 2, entries := c.entries.drop 8 }]

/-- The parts of a census are queued, part 1 before part 2 (R137). -/
def State.queueCensus (s : State) (c : Census) : State :=
  (censusParts c).foldl State.requestCensusPart s

/-- The census is formed and queued, where none is formed (R131). -/
def State.formAndQueue (s : State) (lockout : Bool) : State :=
  match s.census with
  | some _ => s
  | none => (s.setCensus (some (s.formCensus lockout))).queueCensus (s.formCensus lockout)

/-- A removal of records by `f` gives the table-empty signal when it leaves none and took at least one (R20). -/
def State.removeRecords (s : State) (f : List Record → List Record) : State :=
  if (f s.tracker.table).isEmpty && !s.tracker.table.isEmpty then (s.updTable f).tableEmptySignal else s.updTable f

/-- The dropping step and the judging of the gate after it (R132, steps 1 and 2). -/
def State.droppingStep (s : State) : State :=
  (s.removeRecords fun l => l.filter fun r => !r.dropped).judgeGate

end Sys2Proof.Machine
end

