-- ==== Sys2Proof/Machine/PathStates.lean ====
section
/-! DEFINITION. The Path State Controller: entering each state with its entry effects (chapters 6 to 8). -/

namespace Sys2Proof.Machine

/-- The change of state itself: the hold and DRV follow it (R96), and a running timer of the state left is stopped
(R100). -/
def State.toState (s : State) (st : PathState) : State :=
  s.updPath fun c =>
    { c with
      state := st
      hold := holdsLine st
      drv := drives st s.front.cover.level
      decideTimer := none
      stopSettle := none
      coverSettle := none }

/-- A timer's expiry tick: the present tick plus its duration (R100). -/
def State.expiryTick (s : State) (duration : Nat) : Option Tick :=
  some (tickPlus s.now duration)

/-- STANDBY entry (R103): the hold is released and the run-out list emptied. -/
def State.enterStandby (s : State) : State :=
  (s.toState .standby).updTracker fun k => { k with runOut := [] }

/-- The judgement of LINKING (R102). -/
def State.judgeLinking (s : State) : State :=
  if s.readyForStandby then s.enterStandby else s

/-- LINKING entry: the conditions are judged at once (R102). -/
def State.enterLinking (s : State) : State :=
  (s.toState .linking).judgeLinking

/-- STOPPING entry (R110). -/
def State.enterStopping (s : State) : State :=
  ((s.toState .stopping).updTable fun l => l.map Record.disarmed).updPath fun c =>
    { c with stopSettle := s.expiryTick s.prof.stopSettle }

/-- LOCKOUT entry (R111): the census is formed without the dropping step (R138). -/
def State.enterLockout (s : State) : State :=
  ((s.toState .lockout).updTable fun l => l.map Record.disarmed).formAndQueue true

/-- The record condition of R109: with no RESIDENT and no OUTBOUND record, RUNOUT gives way to STOPPING. -/
def State.judgeRunout (s : State) : State :=
  if s.path.state = .runout ∧ s.holdsSheets = false then s.enterStopping else s

/-- RUNOUT entry (R121). -/
def State.enterRunout (s : State) : State :=
  ((s.toState .runout).updTable fun l => l.map Record.atRunout).judgeRunout

/-- The end of DECIDE by a JAM frame or the timer: eligibility is judged (R108, R121). -/
def State.endDecide (s : State) : State :=
  if s.eligible then s.enterRunout else s.enterStopping

/-- The DECIDE timer's duration, in ticks (R100). -/
def decideTicks : Nat := 30

/-- DECIDE entry by a line observation (R99, R106): the HANDOFF flush is requested and the timer started. -/
def State.enterDecide (s : State) : State :=
  (s.toState .decide).flushHandoffs.updPath fun c => { c with decideTimer := s.expiryTick decideTicks }

/-- CLEARING entry (R114). -/
def State.enterClearing (s : State) : State :=
  s.toState .clearing

/-- VERIFY entry with all sensors clear: COVER_SETTLE is started (R115). -/
def State.startVerify (s : State) : State :=
  (s.toState .verify).updPath fun c => { c with coverSettle := s.expiryTick s.prof.coverSettle }

/-- The HELD entry check (R113). -/
def State.heldCheck (s : State) : State :=
  if s.front.cover.level = .opened then s.enterClearing
  else if s.tracker.table.isEmpty && s.sensorsClear then s.startVerify
  else s

/-- Residue found in a state (R112, R140): counted, noticed, and HELD entered with its entry check. -/
def State.residueFound (s : State) (found : PathState) : State :=
  (((s.count .residue).requestReport jobStation (.notice (.residue s.path.epoch found s.coveredSet))).toState
    .held).heldCheck

/-- VERIFY entry (R115): residue returns the station to HELD, otherwise COVER_SETTLE is started. -/
def State.enterVerify (s : State) : State :=
  if s.sensorsClear then s.startVerify else (s.toState .verify).residueFound .verify

/-- HELD entry from STOPPING (R113, R132): with no census formed, the dropping step and the census; then the check. -/
def State.enterHeld (s : State) : State :=
  match s.census with
  | some _ => (s.toState .held).heldCheck
  | none => ((s.toState .held).droppingStep.formAndQueue false).heldCheck

/-- The clearing at the end of COVER_SETTLE (R116, R141). -/
def State.clearSegment (s : State) : State :=
  let entered := if s.neighboursKnown then PathState.standby else PathState.linking
  let cleared := (s.removeRecords fun _ => []).judgeGate.updTracker fun k => { k with runOut := [] }
  let noticed :=
    cleared.requestReport jobStation (.notice (.clear s.path.epoch s.tracker.table.length entered))
  if s.neighboursKnown then noticed.enterStandby else noticed.enterLinking

/-! ## The cover (R117) -/

/-- The answer to "cover closes". -/
def State.coverCloses (s : State) : State :=
  match s.path.state with
  | .linking => s.judgeLinking
  | .clearing => s.enterVerify
  | .unconfigured | .standby | .run | .decide | .runout | .stopping | .held | .verify | .lockout => s

end Sys2Proof.Machine
end

