-- ==== Sys2Proof/Machine/Jams.lean ====
section
/-! DEFINITION. The Jam Monitor: recording own jams, JAM frames and the line observation (chapter 5), and what the Path
State Controller does with them (R91, R106, R108, R109). -/

namespace Sys2Proof.Machine

/-- A jam recorded as a later kind (R86). -/
def JamMonitor.later (j : JamMonitor) (k : JamKind) : JamMonitor :=
  { j with laterSet := j.laterSet ||| kindBit k, laterCount := min 255 (j.laterCount + 1) }

/-- The capture is the LINE capture. -/
def JamMonitor.holdsLine (j : JamMonitor) : Bool :=
  match j.capture with
  | some c => c.cause == .line
  | none => false

/-- An own jam fills the capture: it is empty (R83), or it is the LINE capture and the jam is no TABLE_FULL found
outside RUN (R85, R86). -/
def ownFills (st : PathState) (k : JamKind) (j : JamMonitor) : Bool :=
  j.capture.isNone || (j.holdsLine && !(k == .tableFull && st != .run))

/-- The Jam Monitor's items after an own jam report, but for the JAM-sent flag (R83, R86, R87). -/
def State.afterOwnReport (s : State) (r : JamReport) : JamMonitor :=
  let recorded :=
    if ownFills s.path.state r.kind s.jam then
      { s.jam with
        capture := some
          { cause := .own, kind := some r.kind, sensor := r.sensor, sheetId := r.sheetId, origin := s.stationNumber,
            rank := some s.prof.rank } }
    else s.jam.later r.kind
  { recorded with highestRank := max recorded.highestRank s.prof.rank }

/-- An own jam report is recorded; the first of the epoch queues the JAM frame and sets the JAM-sent flag, whether or
not the frame finds room (R88). -/
def State.recordOwn (s : State) (r : JamReport) : State :=
  let s1 := s.updJam fun _ => s.afterOwnReport r
  if s.jam.jamSent then s1
  else
    (s1.request .urgent broadcast (.jam { report := r, rank := s.prof.rank, epoch := s.path.epoch })).updJam fun j =>
      { j with jamSent := true }

/-- The answer to a halt request (R91, R106, R108, R109). -/
def State.haltRequest (s : State) : State :=
  match s.path.state with
  | .run => s.flushHandoffs.enterStopping
  | .decide => s.enterStopping
  | .runout =>
    match s.prof.escalation with
    | .fold => s.enterStopping
    | .lockout => s.enterLockout
  | .unconfigured | .linking | .standby | .stopping | .held | .clearing | .verify | .lockout => s

/-- The own jams one event has found: all are recorded, in the order found, before the change of state they lead to
(R57, R106; DEDUCED, log 17). -/
def State.raiseJams (s : State) (rs : List JamReport) : State :=
  match rs with
  | [] => s
  | r :: rest => ((r :: rest).foldl State.recordOwn s).haltRequest

/-- An event of the Path Tracker and the jams it found. -/
def raiseFound (e : State × List JamReport) : State :=
  e.1.raiseJams e.2

/-- The line observation (R84, R99): it fills an empty capture with cause LINE, and the station enters DECIDE. -/
def State.observeLine (s : State) : State :=
  (s.updJam fun j =>
    match j.capture with
    | none =>
      { j with
        capture := some { cause := .line, kind := none, sensor := none, sheetId := none, origin := none, rank := none } }
    | some _ => j).enterDecide

/-- The Jam Monitor's items after a recorded JAM frame (R86, R87, R90). -/
def JamMonitor.afterFrame (j : JamMonitor) (source : Nat) (c : JamContents) : JamMonitor :=
  let recorded :=
    if j.capture.isNone || j.holdsLine then
      { j with
        capture := some
          { cause := .remote, kind := some c.report.kind, sensor := c.report.sensor, sheetId := c.report.sheetId,
            origin := some source, rank := some c.rank } }
    else j.later c.report.kind
  { recorded with highestRank := max recorded.highestRank c.rank }

/-- The answer to a remote-jam notice of a rank (R91, R106, R108, R122). -/
def State.remoteJam (s : State) (rank : Nat) : State :=
  match s.path.state with
  | .run => s.flushHandoffs.endDecide
  | .decide => s.endDecide
  | .runout => if s.prof.rank ≤ rank ∨ s.eligible = false then s.enterStopping else s
  | .unconfigured | .linking | .standby | .stopping | .held | .clearing | .verify | .lockout => s

/-- The COVER report (R78). -/
def coverReport : JamReport :=
  { kind := .cover, sensor := none, sheetId := none }

/-- The PEER report (R80). -/
def peerReport : JamReport :=
  { kind := .peer, sensor := none, sheetId := none }

/-- The answer to "cover opens" (R117): in RUNOUT the later kind COVER leads to STOPPING with either escalation (R93).
-/
def State.coverOpens (s : State) : State :=
  match s.path.state with
  | .run => s.raiseJams [coverReport]
  | .decide => s.raiseJams [coverReport]
  | .runout => (s.recordOwn coverReport).enterStopping
  | .standby => s.enterClearing
  | .held => s.enterClearing
  | .verify => s.enterClearing
  | .unconfigured | .linking | .stopping | .clearing | .lockout => s

end Sys2Proof.Machine
end

