-- ==== Sys2Proof/Machine/ResetCommands.lean ====
section
/-! DEFINITION. HARDWARE_RESET and RESET_RELEASE, the RESTART values of the blocks, and the HELLO a station queues of
itself (chapter 10). -/

namespace Sys2Proof.Machine

/-- The contents of a HELLO queued now (R160). -/
def State.helloNow (s : State) (fresh : Bool) : HelloContents :=
  { fresh := fresh, configured := s.setup.profile.isSome, rank := s.prof.rank, roles := s.prof.roles,
    sensorCount := s.prof.n, exitB := s.prof.exitB != 0 }

/-- A HELLO of this station is queued, broadcast (R160). -/
def State.requestHello (s : State) (fresh : Bool) : State :=
  s.requestReport broadcast (.hello (s.helloNow fresh))

/-- HARDWARE_RESET (R118, 10.2): every item takes its reset value and RST_N is low; what the other parties do to the
halt line is theirs (DESIGN CHOICE, log 7). -/
def execHardwareReset (s : State) : Host.Outcome State Fault Refusal :=
  .next
    { State.reset with
      path := { State.reset.path with othersHold := s.path.othersHold }
      eventsDrawn := s.eventsDrawn
      pending := s.pending }

/-- A sensor at its first sample (R41): the sample is the stable level, and no edge comes of it. -/
def sampledSensor (l : Level) : Sensor :=
  { pin := l, mode := .followed, stable := l, candidate := none }

/-- The cover switch at its first sample (R41). -/
def sampledCover (l : CoverLevel) : Cover :=
  { pin := l, level := l, candidate := none }

/-- The release of reset (R158, R41, R156): the straps and the first samples are taken, and with valid straps the fresh
HELLO is queued. -/
def State.releaseReset (s : State) (straps : BitVec 4) (sns : Vector Level 4) (cvr : CoverLevel) : State :=
  (({ s with inReset := false }.updSetup fun u => { u with straps := straps }).updFront fun _ =>
    { sensors := sns.map sampledSensor, cover := sampledCover cvr }).requestHello true

/-- RESET_RELEASE (R158). Out of reset RST_N is high already, and the command leaves the state as it is (DEDUCED, log
10). -/
def execResetRelease (straps : BitVec 4) (sns : Vector Level 4) (cvr : CoverLevel) (s : State) :
    Host.Outcome State Fault Refusal :=
  .next (if s.inReset then s.releaseReset straps sns cvr else s)

/-- A sensor at RESTART (R41): followed again, its candidate discarded uncounted, its stable level kept. -/
def Sensor.restarted (x : Sensor) : Sensor :=
  { x with mode := .followed, candidate := none }

/-- Every block takes its RESTART values (R118, R159, 10.2; R156 for the queues and the attempt). -/
def State.restartBlocks (s : State) : State :=
  { s.toState .unconfigured with
    window := { s.window with currentSpeed := none, pendingSpeed := none }
    front := { s.front with sensors := s.front.sensors.map Sensor.restarted }
    tracker := Tracker.empty
    jam := JamMonitor.clear
    setup := { s.setup with profile := none }
    census := none
    link := { s.link with urgent := [], path := [], report := [], attempt := none, txEnable := false } }.updPath
    fun c => { c with epoch := 0 }

end Sys2Proof.Machine
end

