-- ==== Sys2Proof/Machine/Windows.lean ====
section
/-! DEFINITION. Transit, tolerances and windows, and the judging of a capture (chapter 2). -/

namespace Sys2Proof.Machine

/-! ## Transit and tolerance (R23, R24) -/

/-- transit(d) = ceil(1000 x d / v) ticks (R23). -/
def transit (d v : Nat) : Nat :=
  (1000 * d + v - 1) / v

/-- tol(T) = floor(T x TOLPCT / 100) + SLACK x m, with m 2 for a heavy sheet (R24). -/
def leadTolerance (p : Profile) (heavy : Bool) (T : Nat) : Nat :=
  T * p.tolPct / 100 + p.slack * (if heavy then 2 else 1)

/-- ltol = ceil(1000 x LENTOL / v) (R24). -/
def lengthTolerance (p : Profile) (v : Nat) : Nat :=
  transit p.lenTol v

/-! ## Windows (R25) -/

/-- The greatest offset of a window or take deadline (R25, R29). -/
def maxOffset : Nat := 30000

/-- A window as offsets from its anchor, and whether it saturated. -/
structure Offsets where
  early : Nat
  expected : Nat
  due : Nat
  saturated : Bool
deriving DecidableEq, Repr

/-- The offsets of a window of transit `T` and tolerance `t` (R25). -/
def windowOffsets (T t : Nat) : Offsets :=
  if T + t ≤ maxOffset then { early := T - t, expected := T, due := T + t, saturated := false }
  else { early := 0, expected := min T maxOffset, due := maxOffset, saturated := true }

/-- The window of an anchor and its offsets, its due tick stored when the deadline is armed at tick `now` (R25, R5). -/
def windowAt (now anchor : Tick) (o : Offsets) (armed : Bool) : Window :=
  { early := tickPlus anchor o.early
    expected := tickPlus anchor o.expected
    due := if armed then some { tick := tickPlus anchor o.due, armedAt := now } else none }

/-- The offsets of the lead window over a distance, for a sheet of a record's tag (R25). -/
def State.leadOffsets (s : State) (heavy : Bool) (d : Nat) : Offsets :=
  let T := transit d s.speedNow
  windowOffsets T (leadTolerance s.prof heavy T)

/-- The offsets of the trail window of a sheet of a length (R28). -/
def State.trailOffsets (s : State) (length : Nat) : Offsets :=
  windowOffsets (transit length s.speedNow) (lengthTolerance s.prof s.speedNow)

/-- The inner lead windows of a record are anchored at captures: ANCHORED mode, or an entry LEAD matched in RUNOUT
(R27). -/
def anchoredFor (p : Profile) (r : Record) : Bool :=
  p.anchoring == .anchored || r.entryInRunout

/-- The anchor of the lead window for inner sensor `k` (R27). -/
def innerAnchor (p : Profile) (r : Record) (k : Nat) : Tick :=
  if anchoredFor p r then r.leadCaptures.getD (k - 1) 0 else r.entryAnchor

/-- The distance of the lead window for inner sensor `k` (R27). -/
def innerDistance (p : Profile) (r : Record) (k : Nat) : Nat :=
  if anchoredFor p r then p.position k - p.position (k - 1) else p.entryDistance r.source + p.position k

/-- A record given its lead window for inner sensor `k` (R27), armed as the state arms (R45, R56); saturation counts. -/
def giveLeadWindow (k : Nat) (r : Record) (s : State) : Record × State :=
  let o := s.leadOffsets r.tag.heavy (innerDistance s.prof r k)
  ({ r with leadWindow := some (windowAt s.now (innerAnchor s.prof r k) o (armingState s.path.state)) },
    s.countIf o.saturated .clamp)

/-- A record given its trail window for sensor `k`, anchored at its lead capture there (R28); saturation counts. -/
def giveTrailWindow (k : Nat) (r : Record) (s : State) : Record × State :=
  let o := s.trailOffsets r.tag.length
  ({ r with trailWindow := some (windowAt s.now (r.leadCaptures.getD k 0) o (armingState s.path.state)) },
    s.countIf o.saturated .clamp)

/-- The uncut offset of the take deadline: T + tol(T) + LINK_ALLOW (R29). -/
def State.takeOffset (s : State) (r : Record) : Nat :=
  let T := transit (s.prof.reach r.exit) s.speedNow
  T + leadTolerance s.prof r.tag.heavy T + s.prof.linkAllow

/-! ## Judging a capture (R32 to R34) -/

/-- A matched lead capture is a slip against an armed window: the slip bound is before it, and the due tick is not
(R32). -/
def isSlip (w : Window) (c : Tick) : Bool :=
  match w.due with
  | none => false
  | some d => before (tickPlus w.expected ((d.tick - w.expected).toNat / 2)) c && !before d.tick c

/-- The deviation of a capture from the expected tick, with sign, clamped to -30000..30000 (R33). -/
def deviation (c expected : Tick) : Int :=
  max (-30000) (min 30000 (c - expected).toInt)

/-- The measured length: the distance the paper moved while the sensor was covered (R34). -/
def measuredLength (trail lead : Tick) (v : Nat) : Nat :=
  min 65535 ((trail - lead).toNat * v / 1000)

end Sys2Proof.Machine
end

