-- ==== Sys2Proof/Machine/Tracker.lean ====
section
/-! DEFINITION. The Path Tracker: creating records, matching edges, the exit step, removals and notices (chapters 1, 3
and 4). An operation that may find an own jam answers the state and the reports it found, in order. -/

namespace Sys2Proof.Machine

/-! ## Creation (R12, R13) -/

/-- The new INBOUND record of an announcement (R12, R13): its entry window is the lead window for sensor 0 (R26). -/
def State.newRecord (s : State) (tag : WireTag) (source : Source) (anchor : Tick) : Record :=
  let stored := storedTag tag
  let w := windowAt s.now anchor (s.leadOffsets stored.heavy (s.prof.entryDistance source)) (armsEntry s.path.state)
  { tag := stored
    source := source
    exit := exitFor s.prof stored.side
    phase := .inbound
    entryAnchor := anchor
    expectedEntry := w.expected
    leadIndex := 0
    trailIndex := 0
    leadCaptures := []
    leadWindow := some w
    trailWindow := none
    takeDue := none
    taken := none
    outputBound := none
    entryInRunout := false }

/-- A record is created and inserted by R9; a clamped length and a saturated entry window count (R2, R25), and the gate
is judged (R59). -/
def State.createRecord (s : State) (tag : WireTag) (source : Source) (anchor : Tick) : State :=
  let saturated := (s.leadOffsets tag.heavy (s.prof.entryDistance source)).saturated
  (((s.updTable (insertInbound (s.newRecord tag source anchor))).countIf (lengthClamped tag) .clamp).countIf saturated
    .clamp).judgeGate

/-- The table holds its capacity (R8). -/
def State.tableFull (s : State) : Bool :=
  decide (tableCapacity ≤ s.tracker.table.length)

/-- The table holds a record of a sheet id (R8). -/
def State.holdsSheet (s : State) (id : SheetId) : Bool :=
  s.tracker.table.any (Record.isSheet id)

/-! ## Notices (R60, R61) -/

/-- A matched lead capture is judged for slip, and its SLIP and TRACE notices are queued in that order, against the
window it was matched with (R60, R61). -/
def State.noteLead (s : State) (k : Nat) (id : SheetId) (w : Window) (c : Tick) : State :=
  let dev := deviation c w.expected
  let s1 := s.countIf (isSlip w c) .slip
  let s2 :=
    if isSlip w c && s.prof.report != .none then s1.requestReport jobStation (.notice (.slip id k dev)) else s1
  if s.prof.report = .trace then s2.requestReport jobStation (.notice (.traceLead id k dev)) else s2

/-- The TRACE notice of a matched trail capture (R61). -/
def State.noteTrail (s : State) (k : Nat) (id : SheetId) (length : Nat) : State :=
  if s.prof.report = .trace then s.requestReport jobStation (.notice (.traceTrail id k length)) else s

/-! ## The exit step (R48, R49) -/

/-- The tag a HANDOFF carries: a FLIP station sends FRONT as BACK toward exit A (R66). -/
def sentTag (p : Profile) (r : Record) : SheetTag :=
  if p.roles.flip && r.exit == .a && r.tag.side == .front then { r.tag with side := .back } else r.tag

/-- The exit sensor (chapter 0, Sensor numbering). -/
def Profile.exitSensor (p : Profile) : Nat :=
  p.n - 1

/-- The record is leaving for the output tray (R6). -/
def outputBoundFor (p : Profile) (r : Record) : Bool :=
  r.exit == .a && p.roles.delivery

/-- The take due of an accepted exit step at exit capture `c` (R29). -/
def State.takeDeadline (s : State) (r : Record) (c : Tick) : Option Deadline :=
  if armingState s.path.state then
    some { tick := tickPlus c (min maxOffset (s.takeOffset r)), armedAt := s.now }
  else none

/-- The exit step of a record whose lead index has reached n, at exit capture `c`: refused as a GATE jam when the gate
is set for the other exit (R48), otherwise the record becomes OUTBOUND and a HANDOFF is queued toward a neighbour (R49,
R65). -/
def exitStep (r : Record) (c : Tick) (s : State) : Record × State × List JamReport :=
  if r.exit ≠ s.tracker.gate then
    (r, s, [{ kind := .gate, sensor := some s.prof.exitSensor, sheetId := some r.tag.sheetId }])
  else if outputBoundFor s.prof r then
    ({ r with phase := .outbound, outputBound := some true, taken := none, takeDue := none }, s, [])
  else
    let out :=
      { r with phase := .outbound, outputBound := some false, taken := some false, takeDue := s.takeDeadline r c }
    let counted := s.countIf (decide (maxOffset < s.takeOffset r)) .clamp
    let queued := counted.requestPath (s.prof.exitStation r.exit) (.handoff (sentTag s.prof r) c)
    (out, queued.1, queued.2)

/-! ## Leading edges (R44 to R47, R56) -/

/-- The early test: it is not made in STOPPING (R56); elsewhere the capture must not be before the early tick. -/
def State.passesEarly (s : State) (w : Option Window) (c : Tick) : Bool :=
  s.path.state == .stopping ||
    match w with
    | some w => !before c w.early
    | none => true

/-- The record after the first steps of a matched LEAD at sensor `k`: its capture and lead index, and at sensor 0 its
phase (R45, R47). -/
def State.ledRecord (s : State) (k : Nat) (r : Record) (c : Tick) : Record :=
  { r with
    leadCaptures := r.leadCaptures ++ [c]
    leadIndex := k + 1
    phase := if k = 0 then .resident else r.phase
    entryInRunout := if k = 0 then s.path.state == .runout else r.entryInRunout }

/-- The windows of a matched LEAD at sensor `k`: the trail window for sensor `k` when the trail index equals `k`, then
the lead window for sensor k + 1, or the exit step at the exit sensor (R45, R47). -/
def leadWindows (k : Nat) (r : Record) (c : Tick) (s : State) : Record × State × List JamReport :=
  let trailed := if r.trailIndex = k then giveTrailWindow k r s else (r, s)
  if k + 1 < s.prof.n then
    let led := giveLeadWindow (k + 1) trailed.1 trailed.2
    (led.1, led.2, [])
  else exitStep { trailed.1 with leadWindow := none } c trailed.2

/-- The TAKEN of a matched entry LEAD, to the upstream the record's source names (R45, R71). -/
def State.requestTaken (s : State) (r : Record) : State × List JamReport :=
  match r.source with
  | .launch => (s, [])
  | .upA => s.requestPath s.prof.upA (.taken r.tag.sheetId)
  | .upB => s.requestPath s.prof.upB (.taken r.tag.sheetId)

/-- The notices of a matched LEAD against the window it consumed (R45 step 6, R47). -/
def State.noteMatch (s : State) (k : Nat) (r : Record) (c : Tick) : State :=
  match r.leadWindow with
  | some w => s.noteLead k r.tag.sheetId w c
  | none => s

/-- A LEAD at sensor 0 matched to record `r`, the first that satisfies `p` (R45). -/
def matchEntryLead (p : Record → Bool) (r : Record) (c : Tick) (s : State) : State × List JamReport :=
  let (moved, s1, exitJams) := leadWindows 0 (s.ledRecord 0 r c) c s
  let s2 := s1.updTable fun l => insertResident moved (l.eraseP p)
  let (s3, takenJams) := s2.requestTaken r
  ((s3.noteMatch 0 r c).judgeGate, exitJams ++ takenJams)

/-- A LEAD at sensor `k` of 1 or more matched to record `r`, the first that satisfies `p` (R47). -/
def matchInnerLead (p : Record → Bool) (k : Nat) (r : Record) (c : Tick) (s : State) : State × List JamReport :=
  let (led, s1, jams) := leadWindows k (s.ledRecord k r c) c s
  let s2 := s1.updTable fun l => updateFirst p (fun _ => led) l
  ((s2.noteMatch k r c).judgeGate, jams)

/-- The report of an edge that only found a jam at sensor `k`. -/
def edgeJam (kind : JamKind) (k : Nat) (id : Option SheetId) : JamReport :=
  { kind := kind, sensor := some k, sheetId := id }

/-- The record an entry LEAD chooses: the first INBOUND record that passes the early test (R44, R56). -/
def State.entryChoice (s : State) (c : Tick) (r : Record) : Bool :=
  r.isInbound && s.passesEarly r.leadWindow c

/-- A LEAD at sensor 0 (R44). -/
def takeEntryLead (c : Tick) (s : State) : State × List JamReport :=
  match s.tracker.table.find? (s.entryChoice c) with
  | some r => matchEntryLead (s.entryChoice c) r c s
  | none =>
    match s.tracker.table.find? Record.isInbound with
    | some first => (s, [edgeJam .early 0 (some first.tag.sheetId)])
    | none => (s, [edgeJam .stray 0 none])

/-- The record an inner LEAD at sensor `k` chooses: the oldest resident record with lead index `k` (R46). -/
def innerChoice (k : Nat) (r : Record) : Bool :=
  !r.isInbound && r.leadIndex == k

/-- A LEAD at sensor `k` of 1 or more (R46). -/
def takeInnerLead (k : Nat) (c : Tick) (s : State) : State × List JamReport :=
  match s.tracker.table.find? (innerChoice k) with
  | none => (s, [edgeJam .stray k none])
  | some r =>
    if s.passesEarly r.leadWindow c then matchInnerLead (innerChoice k) k r c s
    else (s, [edgeJam .early k (some r.tag.sheetId)])

/-! ## Trailing edges and removals (R15, R16, R50, R51) -/

/-- The run-out list with a delivered tag appended: a tag of the same sheet id leaves first, and from a list of 8 the
oldest (R18). -/
def runOutAppend (t : SheetTag) (l : List SheetTag) : List SheetTag :=
  let kept := l.filter fun x => x.sheetId != t.sheetId
  (if tableCapacity ≤ kept.length then kept.drop 1 else kept) ++ [t]

/-- The append drops the oldest entry (R18). -/
def runOutOverflows (t : SheetTag) (l : List SheetTag) : Bool :=
  decide (tableCapacity ≤ (l.filter fun x => x.sheetId != t.sheetId).length)

/-- A delivery of the first record that satisfies `p` (R15). -/
def State.deliver (s : State) (p : Record → Bool) (tag : SheetTag) : State :=
  let last := (s.updTracker fun k => { k with lastDelivered := some tag }).count .delivered
  let listed :=
    if s.path.state = .runout then
      (last.updTracker fun k => { k with runOut := runOutAppend tag k.runOut }).countIf
        (runOutOverflows tag s.tracker.runOut) .reportDrop
    else last
  listed.removeRecords fun l => l.eraseP p

/-- A pass of the first record that satisfies `p` (R16). -/
def State.pass (s : State) (p : Record → Bool) : State :=
  (s.count .passed).removeRecords fun l => l.eraseP p

/-- What a record whose trail index has reached n becomes (R51): a delivery, a pass, or a record that stays. -/
inductive Removal where
  | delivery
  | pass
  | stays
deriving DecidableEq, Repr

/-- The removal rules (R15, R16). -/
def removalOf (r : Record) : Removal :=
  if r.phase = .outbound ∧ r.outputBound = some true then .delivery
  else if r.phase = .outbound ∧ r.taken = some true then .pass
  else .stays

/-- The record after a matched TRAIL at sensor `k` (R51). -/
def trailRecord (k : Nat) (r : Record) (s : State) : Record × State :=
  let raisedTo := { r with trailIndex := k + 1, trailWindow := none }
  if k + 1 < r.leadIndex then giveTrailWindow (k + 1) raisedTo s else (raisedTo, s)

/-- The record a TRAIL at sensor `k` chooses: the oldest with trail index `k` and a greater lead index (R50). -/
def trailChoice (k : Nat) (r : Record) : Bool :=
  r.trailIndex == k && decide (k < r.leadIndex)

/-- The record's own lead capture at sensor `k`, the measured length of a trail capture there, at the speed the record
was timed against (R34, DEDUCED, log 12). -/
def State.trailLength (s : State) (k : Nat) (r : Record) (c : Tick) : Nat :=
  measuredLength c (r.leadCaptures.getD k 0) s.speedNow

/-- A TRAIL at sensor `k` matched to record `r`, the first that satisfies `p` (R51): at the exit sensor the removal
rules apply; a removal brings the record condition of RUNOUT (R109, R125). -/
def matchTrail (p : Record → Bool) (k : Nat) (r : Record) (c : Tick) (s : State) : State :=
  let (trailed, s1) := trailRecord k r s
  let length := s.trailLength k r c
  let stays := ((s1.updTable fun l => updateFirst p (fun _ => trailed) l).noteTrail k r.tag.sheetId length).judgeGate
  if k + 1 = s.prof.n then
    match removalOf r with
    | .delivery => (((s1.deliver p r.tag).noteTrail k r.tag.sheetId length).judgeGate).judgeRunout
    | .pass => (((s1.pass p).noteTrail k r.tag.sheetId length).judgeGate).judgeRunout
    | .stays => stays
  else stays

/-- A TRAIL at sensor `k` (R50, R56). -/
def takeTrail (k : Nat) (c : Tick) (s : State) : State × List JamReport :=
  match s.tracker.table.find? (trailChoice k) with
  | none => (s.count .chatter, [])
  | some r =>
    if s.passesEarly r.trailWindow c then (matchTrail (trailChoice k) k r c s, [])
    else (s, [edgeJam .short k (some r.tag.sheetId)])

/-! ## Where edges go (R43) -/

/-- An edge at sensor `k` to level `l`, captured at `c`: matched in RUN, DECIDE, RUNOUT and STOPPING; elsewhere the
level alone acts, as residue in STANDBY and VERIFY (R112) and as the judgement of LINKING (R102). -/
def State.takeEdge (s : State) (k : Nat) (l : Level) (c : Tick) : State :=
  if matchingState s.path.state then
    match l with
    | .covered => raiseFound (if k = 0 then takeEntryLead c s else takeInnerLead k c s)
    | .clear => raiseFound (takeTrail k c s)
  else if s.path.state = .linking then s.judgeLinking
  else if (s.path.state = .standby ∨ s.path.state = .verify) ∧ l = .covered then s.residueFound s.path.state
  else s

end Sys2Proof.Machine
end

