-- ==== Sys2Proof/Machine/FrameOwners.lean ====
section
/-! DEFINITION. What the owner of each frame type does with a received frame (R148): SETUP, HELLO, LAUNCH, HANDOFF,
TAKEN, SPEED, RESUME, RESTART, QUERY, JAM and the frames a station does not take (chapters 2, 4 to 10). -/

namespace Sys2Proof.Machine

/-- A command is handed on from source 0 alone; from any other source the refused counter goes up (R148). -/
def State.commandFrom (s : State) (source : Byte) (f : State → State) : State :=
  if source == 0 then f s else s.count .refused

/-! ## SETUP (R163 to R167) -/

/-- The sensors take the profile's filter modes, each from its present stable level with no candidate (R41). -/
def FrontEnd.withModes (e : FrontEnd) (p : Profile) : FrontEnd :=
  { e with
    sensors := Vector.ofFn fun k : Fin 4 => { e.sensors[k] with mode := inputModeOf p k.val, candidate := none } }

/-- The steps of an accepted SETUP before LINKING is entered (R167, steps 1 to 5). -/
def State.storeSetup (s : State) (f : SetupFrame) : State :=
  (((((s.updSetup fun u => { u with profile := some (profileOf f) }).countBy .clamp (setupClamps f)).updPath fun c =>
    { c with epoch := f.epoch }).updWindow fun w =>
      { w with currentSpeed := some (profileOf f).speed, pendingSpeed := none }).updFront fun e =>
        e.withModes (profileOf f)).requestHello false

/-- A SETUP is refused at a station with a strap fault, in any state but UNCONFIGURED, and with a structural fault
(R163). -/
def State.refusesSetup (s : State) (f : SetupFrame) : Bool :=
  match s.stationNumber with
  | none => true
  | some own => s.path.state != .unconfigured || setupFaulty own f

/-- A SETUP received (R163). -/
def State.setupReceived (s : State) (source : Byte) (f : SetupFrame) : State :=
  s.commandFrom source fun s =>
    if s.refusesSetup f then s.count .refused else (s.storeSetup f).enterLinking

/-! ## HELLO (R161, R162) -/

/-- A non-fresh HELLO of this station waits in the REPORT queue, not started (R162). -/
def Entry.waitingHello (e : Entry) : Bool :=
  match e.body with
  | .hello c => !c.fresh && !e.started
  | .jam _ | .handoff _ _ | .taken _ | .census _ | .notice _ | .status _ => false

/-- The roster entry a HELLO gives its sender (R162, step 1). -/
def entryOfHello (f : HelloFrame) : RosterEntry :=
  { configured := f.configured && !f.fresh, rank := helloRank f.rank, roles := f.roles }

/-- The reply to a fresh HELLO (R162, step 2). -/
def State.replyHello (s : State) (f : HelloFrame) : State :=
  if f.fresh && !s.link.report.any Entry.waitingHello then s.requestHello false else s

/-- A station is named in the profile as a neighbour (R80). -/
def State.isNeighbour (s : State) (n : Nat) : Bool :=
  s.prof.neighbours.contains n

/-- The PEER jam of a fresh HELLO from a neighbour in RUN (R162, step 3). -/
def State.peerJam (s : State) (n : Nat) (f : HelloFrame) : State :=
  if f.fresh && s.isNeighbour n && s.path.state == .run then s.raiseJams [peerReport] else s

/-- What a changed roster entry does to the state: a neighbour become unconfigured takes STANDBY to LINKING (R104); in
LINKING the conditions are judged (R102). -/
def State.rosterChanged (s : State) (n : Nat) (old new : RosterEntry) : State :=
  match s.path.state with
  | .standby => if s.isNeighbour n && old.configured && !new.configured then s.enterLinking else s
  | .linking => if old = new then s else s.judgeLinking
  | .unconfigured | .run | .decide | .runout | .stopping | .held | .clearing | .verify | .lockout => s

/-- A HELLO taken from station `n` (R162). -/
def State.takeHello (s : State) (n : Nat) (f : HelloFrame) : State :=
  (((s.setRosterEntry n (entryOfHello f)).replyHello f).peerJam n f).rosterChanged n (s.rosterEntry n) (entryOfHello f)

/-- A HELLO received (R161). -/
def State.helloReceived (s : State) (source : Byte) (f : HelloFrame) : State :=
  if s.stationNumber = some source.toNat then s
  else if 1 ≤ source.toNat ∧ source.toNat ≤ 14 then s.takeHello source.toNat f
  else s.count .refused

/-! ## LAUNCH (R62 to R64) -/

/-- The reason a LAUNCH is refused for, the first that holds (R62). -/
def State.launchRefusal (s : State) (id : SheetId) : Option RefuseReason :=
  if s.path.state ≠ .run then some .notRun
  else if s.prof.roles.feed = false then some .notFeed
  else if s.tableFull then some .tableFull
  else if s.holdsSheet id then some .duplicate
  else none

/-- A LAUNCH received (R62 to R64). -/
def State.launchReceived (s : State) (source : Byte) (tag : WireTag) : State :=
  s.commandFrom source fun s =>
    match s.launchRefusal tag.sheetId with
    | some reason => (s.count .refused).requestReport jobStation (.notice (.refused tag.sheetId reason))
    | none => s.createRecord tag .launch (tickPlus s.now s.prof.pickDelay)

/-! ## HANDOFF (R68 to R70) -/

/-- HANDOFF_AIR, in ticks (R31). -/
def handoffAir : Nat := 2

/-- The entry anchor of a HANDOFF: receipt tick - age - 2 (R13, R26). -/
def State.handoffAnchor (s : State) (age : BitVec 16) : Tick :=
  s.now - BitVec.ofNat 16 (ageRead age) - BitVec.ofNat 16 handoffAir

/-- A HANDOFF from a configured upstream, in a state in which records are created (R69, R70). -/
def State.takeHandoff (s : State) (tag : WireTag) (source : Source) (age : BitVec 16) : State :=
  if s.tableFull then s.raiseJams [{ kind := .tableFull, sensor := none, sheetId := some tag.sheetId }]
  else if s.holdsSheet tag.sheetId then
    s.raiseJams [{ kind := .duplicate, sensor := none, sheetId := some tag.sheetId }]
  else s.createRecord tag source (s.handoffAnchor age)

/-- A HANDOFF received (R68, R69). -/
def State.handoffReceived (s : State) (source : Byte) (tag : WireTag) (age : BitVec 16) : State :=
  match upstreamOf s.prof source.toNat with
  | none => s.count .refused
  | some up => if matchingState s.path.state then s.takeHandoff tag up age else s.count .refused

/-! ## TAKEN (R72, R73) -/

/-- The record a TAKEN may confirm: OUTBOUND, not output-bound, taken no (R72). -/
def takenChoice (id : SheetId) (r : Record) : Bool :=
  r.isSheet id && r.phase == .outbound && r.outputBound == some false && r.taken == some false

/-- A TAKEN accepted for the first record that satisfies `p` (R73). -/
def State.acceptTaken (s : State) (p : Record → Bool) (r : Record) : State :=
  if r.trailIndex = s.prof.n then (s.pass p).judgeGate.judgeRunout
  else s.updTable (updateFirst p fun x => { x with taken := some true })

/-- A TAKEN received (R72). -/
def State.takenReceived (s : State) (source : Byte) (id : SheetId) : State :=
  match s.tracker.table.find? (takenChoice id) with
  | none => s.count .refused
  | some r =>
    if matchingState s.path.state && source.toNat == s.prof.exitStation r.exit && source != 0 then
      s.acceptTaken (takenChoice id) r
    else s.count .refused

/-! ## SPEED, RESUME, RESTART, QUERY -/

/-- A SPEED value accepted (R36): clamped with a count, current with an empty table, pending otherwise. -/
def State.takeSpeed (s : State) (value : Nat) : State :=
  let v := clampTo 50 1600 value
  (s.countIf (v != value) .clamp).updWindow fun w =>
    if s.tracker.table.isEmpty then { w with currentSpeed := some v, pendingSpeed := none }
    else { w with pendingSpeed := some v }

/-- A SPEED received (R36). -/
def State.speedReceived (s : State) (source : Byte) (value : BitVec 16) : State :=
  s.commandFrom source fun s =>
    if s.path.state = .unconfigured then s.count .refused else s.takeSpeed value.toNat

/-- An accepted RESUME (R105): the epoch, the jam items, the census, and RUN. -/
def State.acceptResume (s : State) (epoch : Byte) : State :=
  (((s.updPath fun c => { c with epoch := epoch }).updJam fun _ => JamMonitor.clear).setCensus none).toState .run

/-- A RESUME received (R105). -/
def State.resumeReceived (s : State) (source : Byte) (epoch : Byte) : State :=
  s.commandFrom source fun s =>
    if s.path.state = .standby ∧ s.path.lineHigh = true ∧ epoch ≠ s.path.epoch then s.acceptResume epoch
    else s.count .refused

/-- A RESTART received (R169): with a strap fault it changes nothing; otherwise the blocks restart and the fresh HELLO
is queued. -/
def State.restartReceived (s : State) (source : Byte) : State :=
  s.commandFrom source fun s => if s.strapFault then s else s.restartBlocks.requestHello true

/-- The STATUS frame built from the values current now (R154). -/
def State.statusNow (s : State) : StatusContents :=
  { state := s.path.state
    epoch := s.path.epoch
    recordCount := s.tracker.table.length
    capture := s.jam.capture
    laterSet := s.jam.laterSet
    laterCount := s.jam.laterCount
    highestRank := s.jam.highestRank
    currentSpeed := s.window.currentSpeed
    pendingSpeed := s.window.pendingSpeed
    configured := s.setup.roster.map fun e => e.configured
    levels := s.front.sensors.map fun x => x.stable
    cover := s.front.cover.level
    lineHigh := s.path.lineHigh
    counters := s.counters }

/-- A QUERY received with its census flag clear (R154). -/
def State.queryStatusReceived (s : State) (source : Byte) : State :=
  s.commandFrom source fun s => s.requestReport jobStation (.status s.statusNow)

/-- A QUERY received with its census flag set (R142). -/
def State.queryCensusReceived (s : State) (source : Byte) : State :=
  s.commandFrom source fun s =>
    match s.census with
    | some c => s.queueCensus c
    | none => s.count .refused

/-! ## JAM (R89, R90) -/

/-- What a JAM frame taken in RUN, DECIDE, RUNOUT or STOPPING from another source than this station carries, where it is
to be recorded (R89). -/
def State.jamAccepted (s : State) (source : Nat) (f : JamFrame) : Option JamContents :=
  if 1 ≤ source ∧ source ≤ 14 ∧ f.epoch = s.path.epoch then jamRead f else none

/-- A JAM received (R89 to R91): ignored uncounted outside the four states and from this station's own number, whatever
else it holds (DESIGN CHOICE for a frame of its own number that is also refusable: log 25); refused with a count for its
source (DEDUCED, log 11), its fields or its epoch; otherwise recorded and answered. -/
def State.jamReceived (s : State) (source : Byte) (f : JamFrame) : State :=
  if matchingState s.path.state = false ∨ s.stationNumber = some source.toNat then s
  else
    match s.jamAccepted source.toNat f with
    | none => s.count .refused
    | some c => (s.updJam fun j => j.afterFrame source.toNat c).remoteJam c.rank

/-- A CENSUS, NOTICE or STATUS received: handed to no block, and the refused counter goes up (R148). -/
def State.untakenReceived (s : State) : State :=
  s.count .refused

end Sys2Proof.Machine
end

