-- ==== Sys2Proof/Machine/Receiver.lean ====
section
/-! DEFINITION. The receive side of the Link Controller: the receive assembler character by character (R144, R145,
R147), and the way of a received frame to its owner (R148). -/

namespace Sys2Proof.Machine

/-! ## Conditions of the assembler (R145) -/

/-- A destination the station collects: its own number or 15 (R145); with a strap fault 15 alone (R156). -/
def State.addressed (s : State) (value : Byte) : Bool :=
  value.toNat == broadcast || s.stationNumber == some value.toNat

/-- A character has been seen on PB_RX: its start bit set the idle count to 0, and the idle time is counted from the end
of its stop bit (R144). -/
def Link.seen (l : Link) : Link :=
  { l with idleCount := 0, charClock := 0 }

/-- A marked character begins a frame (R145). -/
def State.beginFrame (s : State) (value : Byte) : State :=
  s.updLink fun l =>
    if s.addressed value then { l.seen with assembler := .taking, collecting := [value] }
    else { l.seen with assembler := .passing, collecting := [] }

/-- Characters that no frame is collected from: they are ignored in WAITING and let by in PASSING (R145). -/
def State.letBy (s : State) : State :=
  s.updLink Link.seen

/-- Characters of the frame being collected have come, and more are to come (R145). -/
def State.keepCollecting (s : State) (held : List Byte) : State :=
  s.updLink fun l => { l.seen with collecting := held }

/-- The end of a frame: the assembler returns to WAITING (R145). -/
def State.frameEnded (s : State) : State :=
  s.updLink fun l => { l.seen with assembler := .waiting, collecting := [] }

/-- The idle count above which a receiver gives up a frame (R145, R147). -/
def idleLimit : Nat := 2

/-- The idle count stands above 2. -/
def State.lineGap (s : State) : Bool :=
  decide (idleLimit < s.link.idleCount)

/-- A frame being collected is abandoned and counted once (R147). At a gap no character has come; a marked character
begins a new frame. -/
def State.abandonFrame (s : State) (fault : ReceiveFault) : State :=
  let counted := s.count .receiveError
  match fault with
  | .marked value => counted.beginFrame value
  | .idleGap => counted.updLink fun l => { l with assembler := .waiting, collecting := [] }
  | .framing | .lengthAbove72 | .crcDiffers | .unknownType | .lengthNotAllowed => counted.frameEnded

/-! ## Collecting (R145, R147) -/

/-- What a character in TAKING brings: the frame goes on, is complete with every check passed, or meets a fault. -/
inductive Collected where
  | goesOn (held : List Byte)
  | received (i : Instr)
  | fault (f : ReceiveFault)
deriving DecidableEq, Repr

/-- A character has a framing error: its stop bit reads 0 (R144). -/
def framingError (c : Character) : Bool :=
  !c.stop

/-- One character collected after those of `held` (R145), with the checks of R147 in the order of their finding. -/
def collect (held : List Byte) (c : Character) : Collected :=
  if framingError c then .fault .framing
  else if c.mark then .fault (.marked c.data)
  else
    match decodeFrame (held ++ [c.data]) with
    | .ok i => .received i
    | .error .idleGap => .goesOn (held ++ [c.data])
    | .error f => .fault f

/-! ## Received frames (R148) -/

/-- A received frame is handed to the block that owns its type (R148). No other command is a frame. -/
def State.handToOwner (s : State) : Instr → State
  | .setup source f => s.setupReceived source f
  | .hello source f => s.helloReceived source f
  | .launch source tag => s.launchReceived source tag
  | .handoff source tag age => s.handoffReceived source tag age
  | .taken source sheet => s.takenReceived source sheet
  | .speed source value => s.speedReceived source value
  | .resume source epoch => s.resumeReceived source epoch
  | .restart source => s.restartReceived source
  | .queryStatus source => s.queryStatusReceived source
  | .queryCensus source => s.queryCensusReceived source
  | .jam source f => s.jamReceived source f
  | .untakenFrame _ _ _ => s.untakenReceived
  | .hardwareReset | .resetRelease _ _ _ | .sensorInputChange _ _ | .filterConfirm _ | .rawEdge _ _
  | .coverInputChange _ | .coverConfirm | .haltLineChange _ | .leadExpiry _ | .trailExpiry _ | .takeExpiry _
  | .decideTimerExpiry | .stopSettleExpiry | .coverSettleExpiry | .frameAbandon _ | .assemblerIdle _
  | .transmitStart _ | .collision | .transmitComplete | .markedCharacter _ => s

/-- One character arrives (R144, R145, R147). Where no frame is collected a marked one without a framing error begins a
frame, and any other only sets the idle count to 0. In TAKING it joins the frame, ends it, or abandons it. -/
def State.receive (s : State) (c : Character) : State :=
  match s.link.assembler with
  | .waiting | .passing => if c.mark && !framingError c then s.beginFrame c.data else s.letBy
  | .taking =>
    match collect s.link.collecting c with
    | .goesOn held => s.keepCollecting held
    | .received i => s.frameEnded.handToOwner i
    | .fault fault => s.abandonFrame fault

/-- A marked character without a framing error. -/
def marked (b : Byte) : Character :=
  { data := b, mark := true, stop := true }

/-- An unmarked character without a framing error. -/
def unmarked (b : Byte) : Character :=
  { data := b, mark := false, stop := true }

/-! ## A frame's own command -/

/-- The frame of command `i` as it stands on the line when the characters of `held` have come: those as they came,
unused bits included, the rest as `i` is encoded, and the CRC of them all (R146, R170). -/
def frameFrom (held : List Byte) (i : Instr) : List Byte :=
  match encodeFrame 0 i with
  | none => held
  | some bytes =>
    let body := held ++ (bytes.drop held.length).dropLast
    body ++ [crc8 body]

/-- The characters of `held` begin the frame of command `i` as it is encoded. -/
def beginsFrame (held : List Byte) (i : Instr) : Bool :=
  match encodeFrame (held.headD 0) i with
  | none => false
  | some bytes => held.isPrefixOf bytes

/-- The rest of the frame of command `i` arrives (DESIGN CHOICE, log 5). Where no frame is collected its characters are
let by. In TAKING the frame goes to its owner where the characters held, with that rest, read as `i` (R148), and is
abandoned where its length is one its type does not allow (R147); while another frame is collected the command leaves
the state as it is (DESIGN CHOICE, log 3). -/
def onFrame (i : Instr) (s : State) : Host.Outcome State Fault Refusal :=
  whileRunning s fun s =>
    match s.link.assembler with
    | .waiting | .passing => s.letBy
    | .taking =>
      match decodeFrame (frameFrom s.link.collecting i) with
      | .ok j => if j = i then s.frameEnded.handToOwner i else s
      | .error fault => if beginsFrame s.link.collecting i then s.abandonFrame fault else s

end Sys2Proof.Machine
end

