-- ==== Sys2Proof/Machine/BusCommands.lean ====
section
/-! DEFINITION. The commands of the received frames: each brings the rest of its frame, whose owner's rules then say
what it does (R148). -/

namespace Sys2Proof.Machine

/-- SETUP (R163). -/
def execSetup (source : Byte) (f : SetupFrame) (s : State) : Host.Outcome State Fault Refusal :=
  onFrame (.setup source f) s

/-- HELLO (R161). -/
def execHello (source : Byte) (f : HelloFrame) (s : State) : Host.Outcome State Fault Refusal :=
  onFrame (.hello source f) s

/-- LAUNCH (R62). -/
def execLaunch (source : Byte) (tag : WireTag) (s : State) : Host.Outcome State Fault Refusal :=
  onFrame (.launch source tag) s

/-- HANDOFF (R68, R69). -/
def execHandoff (source : Byte) (tag : WireTag) (age : BitVec 16) (s : State) : Host.Outcome State Fault Refusal :=
  onFrame (.handoff source tag age) s

/-- TAKEN (R72). -/
def execTaken (source : Byte) (sheet : SheetId) (s : State) : Host.Outcome State Fault Refusal :=
  onFrame (.taken source sheet) s

/-- SPEED (R36). -/
def execSpeed (source : Byte) (value : BitVec 16) (s : State) : Host.Outcome State Fault Refusal :=
  onFrame (.speed source value) s

/-- RESUME (R105). -/
def execResume (source : Byte) (epoch : Byte) (s : State) : Host.Outcome State Fault Refusal :=
  onFrame (.resume source epoch) s

/-- RESTART (R169). -/
def execRestart (source : Byte) (s : State) : Host.Outcome State Fault Refusal :=
  onFrame (.restart source) s

/-- QUERY with its census flag clear (R154). -/
def execQueryStatus (source : Byte) (s : State) : Host.Outcome State Fault Refusal :=
  onFrame (.queryStatus source) s

/-- QUERY with its census flag set (R142). -/
def execQueryCensus (source : Byte) (s : State) : Host.Outcome State Fault Refusal :=
  onFrame (.queryCensus source) s

/-- JAM (R89). -/
def execJam (source : Byte) (f : JamFrame) (s : State) : Host.Outcome State Fault Refusal :=
  onFrame (.jam source f) s

/-- UNTAKEN_FRAME (R148). -/
def execUntakenFrame (source : Byte) (type : ReportType) (payload : List Byte) (s : State) :
    Host.Outcome State Fault Refusal :=
  onFrame (.untakenFrame source type payload) s

end Sys2Proof.Machine
end

