-- ==== Sys2Proof/Machine/ExpiryCommands.lean ====
section
/-! DEFINITION. The expiries of deadlines (R22, R52 to R54) and of the three timers (R100, R108, R116, R130). -/

namespace Sys2Proof.Machine

/-- An armed deadline expires at the present tick: its due tick is reached, and it was armed at an earlier tick (R22).
-/
def State.expires (s : State) (d : Option Deadline) : Bool :=
  match d with
  | none => false
  | some d => reached s.now d.tick && d.armedAt != s.now

/-- The deadline of a window, where there is one. -/
def windowDue (w : Option Window) : Option Deadline :=
  w.bind fun w => w.due

/-- A record with its lead deadline disarmed: the early and expected ticks stay (R22). -/
def Record.leadDisarmed (r : Record) : Record :=
  { r with leadWindow := r.leadWindow.map fun w => { w with due := none } }

/-- A record with its trail deadline disarmed (R22). -/
def Record.trailDisarmed (r : Record) : Record :=
  { r with trailWindow := r.trailWindow.map fun w => { w with due := none } }

/-- A record with its take deadline disarmed (R22). -/
def Record.takeDisarmed (r : Record) : Record :=
  { r with takeDue := none }

/-- The record of a sheet id is changed. -/
def State.updSheet (s : State) (id : SheetId) (f : Record → Record) : State :=
  s.updTable (updateFirst (Record.isSheet id) f)

/-- LEAD_EXPIRY (R22, R52): the deadline is disarmed; in RUN, DECIDE and RUNOUT it is an own jam LATE. A deadline that
is not armed or not reached does not expire (DESIGN CHOICE, log 3). -/
def execLeadExpiry (id : SheetId) (s : State) : Host.Outcome State Fault Refusal :=
  whileRunning s fun s =>
    match s.findSheet id with
    | none => s
    | some r =>
      if s.expires (windowDue r.leadWindow) then
        let disarmed := s.updSheet id Record.leadDisarmed
        if armingState s.path.state then
          disarmed.raiseJams [{ kind := .late, sensor := some r.leadIndex, sheetId := some id }]
        else disarmed
      else s

/-- TRAIL_EXPIRY (R22, R53): the deadline is disarmed; in RUN, DECIDE and RUNOUT a COVERED sensor is an own jam STALL,
and in RUNOUT a CLEAR one ends the run-out (R109). -/
def execTrailExpiry (id : SheetId) (s : State) : Host.Outcome State Fault Refusal :=
  whileRunning s fun s =>
    match s.findSheet id with
    | none => s
    | some r =>
      if s.expires (windowDue r.trailWindow) then
        let disarmed := s.updSheet id Record.trailDisarmed
        if armingState s.path.state then
          match s.stableLevel r.trailIndex with
          | .covered => disarmed.raiseJams [{ kind := .stall, sensor := some r.trailIndex, sheetId := some id }]
          | .clear => if s.path.state = .runout then disarmed.enterStopping else disarmed
        else disarmed
      else s

/-- TAKE_EXPIRY (R22, R54): the take due becomes absent; in RUN, DECIDE and RUNOUT, with taken no, it is an own jam
HANDOFF at the exit sensor. -/
def execTakeExpiry (id : SheetId) (s : State) : Host.Outcome State Fault Refusal :=
  whileRunning s fun s =>
    match s.findSheet id with
    | none => s
    | some r =>
      if s.expires r.takeDue then
        let disarmed := s.updSheet id Record.takeDisarmed
        if armingState s.path.state && r.taken == some false then
          disarmed.raiseJams [{ kind := .handoff, sensor := some s.prof.exitSensor, sheetId := some id }]
        else disarmed
      else s

/-- A timer expires at the present tick: it runs, and its expiry tick is reached (R100). -/
def State.timerExpires (s : State) (t : Option Tick) : Bool :=
  match t with
  | none => false
  | some d => reached s.now d

/-- DECIDE_TIMER_EXPIRY (R108): DECIDE ends, and eligibility is judged with the highest jam rank as it stands. -/
def execDecideTimerExpiry (s : State) : Host.Outcome State Fault Refusal :=
  whileRunning s fun s =>
    if s.path.state = .decide ∧ s.timerExpires s.path.decideTimer = true then s.endDecide else s

/-- STOP_SETTLE_EXPIRY (R130): HELD is entered, with the dropping step and the census. -/
def execStopSettleExpiry (s : State) : Host.Outcome State Fault Refusal :=
  whileRunning s fun s =>
    if s.path.state = .stopping ∧ s.timerExpires s.path.stopSettle = true then s.enterHeld else s

/-- COVER_SETTLE_EXPIRY (R116): the segment is cleared and the station readies itself. -/
def execCoverSettleExpiry (s : State) : Host.Outcome State Fault Refusal :=
  whileRunning s fun s =>
    if s.path.state = .verify ∧ s.timerExpires s.path.coverSettle = true then s.clearSegment else s

end Sys2Proof.Machine
end

