-- ==== Sys2Proof/Machine/Frames.lean ====
section
/-! DEFINITION. The frames the station sends, as bytes: the layouts of chapter 11, the age stamp (R31), and the
characters of an attempt (R144). -/

namespace Sys2Proof.Machine

/-! ## Shared encodings (chapter 11.2) -/

/-- A number as one byte. -/
def byteOf (n : Nat) : Byte :=
  BitVec.ofNat 8 n

/-- A number as two bytes, most significant first. -/
def numberBytes (n : Nat) : List Byte :=
  halfBytes (BitVec.ofNat 16 n)

/-- A signed value as two bytes, two's complement. -/
def signedBytes (v : Int) : List Byte :=
  halfBytes (BitVec.ofInt 16 v)

/-- The side codes. -/
def sideCode : Side → BitVec 2
  | .simplex => 0
  | .front => 1
  | .back => 2

/-- A stored tag as packed. -/
def wireTag (t : SheetTag) : WireTag :=
  { sheetId := t.sheetId, job := t.job, page := t.page, side := sideCode t.side, heavy := t.heavy,
    length := BitVec.ofNat 13 t.length }

/-- The code of an optional kind: 0 where it is absent. -/
def kindCodeOf : Option JamKind → Nat
  | some k => kindCode k
  | none => 0

/-- The cause codes. -/
def causeCode : Cause → Nat
  | .own => 0
  | .remote => 1
  | .line => 2

/-- The sensor byte: 255 for none. -/
def sensorByte : Option Nat → Byte
  | some k => byteOf k
  | none => 255

/-- A sheet id field whose bit 15 is set when no sheet id is given (JAM, STATUS). -/
def optionalSheet : Option SheetId → List Byte
  | some id => halfBytes ((0 : BitVec 4) ++ id)
  | none => halfBytes ((8 : BitVec 4) ++ (0 : BitVec 12))

/-- A sheet id field with its other bits unused. -/
def sheetField (id : SheetId) : List Byte :=
  halfBytes ((0 : BitVec 4) ++ id)

/-- The state codes. -/
def stateCode : PathState → Nat
  | .unconfigured => 0
  | .linking => 1
  | .standby => 2
  | .run => 3
  | .decide => 4
  | .runout => 5
  | .stopping => 6
  | .held => 7
  | .clearing => 8
  | .verify => 9
  | .lockout => 10

/-! ## Payloads -/

/-- The reason codes of a REFUSED notice. -/
def reasonCode : RefuseReason → Nat
  | .notRun => 1
  | .notFeed => 2
  | .tableFull => 3
  | .duplicate => 4

/-- A NOTICE payload (chapter 11.5). -/
def noticePayload : Notice → List Byte
  | .slip id k dev => [1] ++ sheetField id ++ [byteOf k] ++ signedBytes dev
  | .traceLead id k dev => [2] ++ sheetField id ++ [byteOf k, 0] ++ signedBytes dev
  | .traceTrail id k length => [2] ++ sheetField id ++ [byteOf k, 1] ++ numberBytes length
  | .refused id reason => [3] ++ sheetField id ++ [byteOf (reasonCode reason)]
  | .clear epoch removed entered => [4, epoch, byteOf removed, byteOf (stateCode entered)]
  | .residue epoch found covered => [5, epoch, byteOf (stateCode found), (0 : BitVec 4) ++ covered]

/-- The JAM payload of a station's own jam (chapter 11.4). -/
def jamContentsPayload (c : JamContents) : List Byte :=
  [byteOf (kindCode c.report.kind), sensorByte c.report.sensor] ++ optionalSheet c.report.sheetId
    ++ [byteOf c.rank, c.epoch]

/-- The HELLO payload of a station (chapter 11.4). -/
def helloContentsPayload (c : HelloContents) : List Byte :=
  helloPayload
    { fresh := c.fresh, configured := c.configured, exitB := c.exitB, rank := byteOf c.rank, roles := c.roles,
      sensorCount := byteOf c.sensorCount }

/-- The capture summary of STATUS: bytes 4 to 9, with the absent marks where the capture is not valid (chapter 11.5). -/
def captureBytes : Option Capture → List Byte
  | none => [byteOf (3 * 32), 255] ++ optionalSheet none ++ [0, 0]
  | some c =>
    [byteOf (128 + causeCode c.cause * 32 + kindCodeOf c.kind), sensorByte c.sensor] ++ optionalSheet c.sheetId
      ++ [byteOf (c.origin.getD 0), byteOf (c.rank.getD 0)]

/-- The roster marks of STATUS: bit k for station k (chapter 11.5). -/
def rosterMarks (marks : Vector Bool 14) : Half :=
  (List.range 14).foldl (fun m i => if marks.toList.getD i false then m ||| BitVec.twoPow 16 (i + 1) else m) 0

/-- The levels byte of STATUS (chapter 11.5). Which of bits 3 to 0 is SNS0's is not stated: the stable level of SNS k
stands in bit k, as in a sensor set (DEDUCED, log 24). -/
def levelsByte (c : StatusContents) : Byte :=
  let bit (k : Nat) : Bool := c.levels.toList.getD k .clear == .covered
  bitsByte false false c.lineHigh (c.cover == .closed) (bit 3) (bit 2) (bit 1) (bit 0)

/-- The eleven counters in the order of R155, two bytes each. -/
def counterBytes (k : Counters) : List Byte :=
  halfBytes k.delivered ++ halfBytes k.passed ++ halfBytes k.slip ++ halfBytes k.chatter ++ halfBytes k.receiveError
    ++ halfBytes k.transmitRetry ++ halfBytes k.transmitDiscard ++ halfBytes k.reportDrop ++ halfBytes k.refused
    ++ halfBytes k.residue ++ halfBytes k.clamp

/-- The STATUS payload (chapter 11.5). -/
def statusPayload (c : StatusContents) : List Byte :=
  [byteOf (stateCode c.state), c.epoch, byteOf c.recordCount] ++ captureBytes c.capture
    ++ halfBytes ((0 : BitVec 4) ++ c.laterSet) ++ [byteOf c.laterCount, byteOf c.highestRank]
    ++ numberBytes (c.currentSpeed.getD 0) ++ numberBytes (c.pendingSpeed.getD 0)
    ++ halfBytes (rosterMarks c.configured) ++ [levelsByte c] ++ counterBytes c.counters

/-- The fate codes (R171). -/
def fateCode : Fate → BitVec 2
  | .notFed => 0
  | .stranded => 1
  | .unconfirmed => 2
  | .delivered => 3

/-- An entry's packed tag: the extra bits carry its fate and jam flag (R171). -/
def entryTagBytes (e : CensusEntry) : List Byte :=
  tagBytes (fateCode e.fate ++ BitVec.ofBool e.jamFlag ++ (0 : BitVec 1)) (wireTag e.tag)

/-- The pair code of an entry's indices (R171). -/
def pairCode (e : CensusEntry) : Nat :=
  e.leadIndex * (e.leadIndex + 1) / 2 + e.trailIndex

/-- The pair codes of the entries of a part, two to a byte, the earlier in bits 7-4 (R171). -/
def pairBytes : List CensusEntry → List Byte
  | [] => []
  | [e] => [byteOf (pairCode e * 16)]
  | e :: e' :: rest => byteOf (pairCode e * 16 + pairCode e') :: pairBytes rest

/-- The cause code of a census header; a forming always finds the capture valid (R135). -/
def headerCause : Option Cause → BitVec 2
  | some c => BitVec.ofNat 2 (causeCode c)
  | none => 3

/-- Bytes 6 to 12 of a census header: the last-delivered tag with its extra bits (chapter 11.5, R171). -/
def lastDeliveredBytes (h : CensusHeader) : List Byte :=
  match h.lastDelivered with
  | some t => tagBytes (BitVec.ofBool true ++ BitVec.ofBool h.lockout ++ headerCause h.cause) (wireTag t)
  | none =>
    tagBytes (BitVec.ofBool false ++ BitVec.ofBool h.lockout ++ headerCause h.cause)
      { sheetId := 0, job := 0, page := 0, side := 0, heavy := false, length := 0 }

/-- The CENSUS payload of a part (chapter 11.5, R171). -/
def censusPayload (c : CensusPart) : List Byte :=
  [c.header.epoch, byteOf (c.header.rank * 16 + kindCodeOf c.header.kind)]
    ++ halfBytes (c.header.covered ++ c.header.laterSet)
    ++ [byteOf (c.total * 8 + (c.number - 1) * 4 + (c.parts - 1) * 2)]
    ++ lastDeliveredBytes c.header ++ c.entries.flatMap entryTagBytes ++ pairBytes c.entries

/-- The type of a queued frame. -/
def bodyType : Body → FrameType
  | .jam _ => .jam
  | .handoff _ _ => .handoff
  | .taken _ => .taken
  | .hello _ => .hello
  | .census _ => .census
  | .notice _ => .notice
  | .status _ => .status

/-- The age stamped at tick `now` on a HANDOFF of exit capture `c` (R31). -/
def ageStamp (now c : Tick) : Nat :=
  min 30000 (now - c).toNat

/-- The payload of a queued frame whose transmission begins at tick `now`. -/
def bodyPayload (now : Tick) : Body → List Byte
  | .jam c => jamContentsPayload c
  | .handoff tag c => tagBytes 0 (wireTag tag) ++ numberBytes (ageStamp now c)
  | .taken id => sheetField id
  | .hello c => helloContentsPayload c
  | .census c => censusPayload c
  | .notice c => noticePayload c
  | .status c => statusPayload c

/-- The bytes of an attempt to send an entry, from station `own`, begun at tick `now` (R145, R151). -/
def attemptBytes (now : Tick) (own : Nat) (e : Entry) : List Byte :=
  frameBytes (byteOf e.dest) (byteOf own) (bodyType e.body) (bodyPayload now e.body)

/-! ## Characters (R144) -/

/-- The eleven bits of a character in the order of the line: start 0, data least significant first, mark, stop (R144).
-/
def characterBits (c : Character) : List Bool :=
  [false] ++ (List.range 8).map (fun i => c.data.getLsbD i) ++ [c.mark, c.stop]

/-- A character as a station sends it: its stop bit is 1 (R144). -/
def sentCharacter (mark : Bool) (b : Byte) : Character :=
  { data := b, mark := mark, stop := true }

/-- The characters PB_TX sends in an attempt: the first is marked (R144). -/
def pbTxCharacters (a : Attempt) : List (List Bool) :=
  match a.bytes with
  | [] => []
  | b :: rest => characterBits (sentCharacter true b) :: rest.map fun b => characterBits (sentCharacter false b)

/-- The level of PB_TX in bit time `i` of the attempt in progress: its characters back to back (R151). The line at rest
is 1 (R144), so outside an attempt, in reset (R156) and after the last bit PB_TX is high (DEDUCED, log 23). -/
def pbTxPin (s : State) (i : Nat) : Bool :=
  match s.link.attempt with
  | none => true
  | some a => (pbTxCharacters a).flatten.getD i true

end Sys2Proof.Machine
end

