-- ==== Sys2Proof/Machine/LinkCommands.lean ====
section
/-! DEFINITION. The commands of the Link Controller: MARKED_CHARACTER, FRAME_ABANDON, ASSEMBLER_IDLE, TRANSMIT_START,
COLLISION and TRANSMIT_COMPLETE (chapter 9). -/

namespace Sys2Proof.Machine

/-! ## Receiving (R145, R147) -/

/-- MARKED_CHARACTER (R145): it begins a frame; one that comes while a frame is collected abandons that frame (R147). -/
def execMarkedCharacter (value : Byte) (s : State) : Host.Outcome State Fault Refusal :=
  whileRunning s fun s => s.receive (marked value)

/-- FRAME_ABANDON (R147): a character arrives, which abandons the frame collected where it shows a fault; without one, a
gap does. While no frame is collected there is none to abandon (DEDUCED, log 6), and a character without a fault does
what R144, R145 and R148 give it (DESIGN CHOICE, log 4). -/
def execFrameAbandon (c : Option Character) (s : State) : Host.Outcome State Fault Refusal :=
  whileRunning s fun s =>
    match c with
    | none => if s.link.assembler = .taking ∧ s.lineGap = true then s.abandonFrame .idleGap else s
    | some c => s.receive c

/-- ASSEMBLER_IDLE (R145): in PASSING, an idle count above 2 returns the assembler to WAITING. The operand is the idle
count at which it comes; while the count stands elsewhere the command leaves the state as it is (DESIGN CHOICE, log 3).
-/
def execAssemblerIdle (idle : Nat) (s : State) : Host.Outcome State Fault Refusal :=
  whileRunning s fun s =>
    if s.link.assembler = .passing ∧ s.link.idleCount = idle ∧ s.lineGap = true then
      s.updLink fun l => { l with assembler := .waiting }
    else s

/-! ## Transmitting (R150 to R152) -/

/-- The offered frame: the head of the first non-empty queue in the order URGENT, PATH, REPORT (R150). -/
def Link.offered (l : Link) : Option (QueueClass × Entry) :=
  match l.urgent with
  | e :: _ => some (.urgent, e)
  | [] =>
    match l.path with
    | e :: _ => some (.path, e)
    | [] =>
      match l.report with
      | e :: _ => some (.report, e)
      | [] => none

/-- The class gap without the station's number, in character times (R150). -/
def classGap : QueueClass → Nat
  | .urgent => 4
  | .path => 20
  | .report => 36

/-- The gap of an offered frame at station `n` (R150). -/
def frameGap (n : Nat) (c : QueueClass) (e : Entry) : Nat :=
  classGap c + n + 16 * e.retry

/-- The frame that begins now, with the station's number and its class: the offered one, at the end of a character time
(R150), when the idle count has reached its gap and no attempt is in progress. A station with a strap fault never begins
(R156). -/
def State.beginsNow (s : State) : Option (Nat × QueueClass × Entry) :=
  match s.stationNumber, s.link.attempt, s.link.offered with
  | some n, none, some (c, e) =>
    if frameGap n c e ≤ s.link.idleCount ∧ s.link.charClock = 0 then some (n, c, e) else none
  | _, _, _ => none

/-- The offered frame begins (R151): its started mark is set, the bytes of this attempt are formed with a HANDOFF's age
(R31), PB_TXEN is driven, and its start bit sets the idle count to 0. -/
def State.beginAttempt (s : State) (own : Nat) (c : QueueClass) (e : Entry) : State :=
  s.updLink fun l =>
    { (l.setQueue c ((l.queue c).modifyHead fun e => { e with started := true })).seen with
      attempt := some { cls := c, bytes := attemptBytes s.now own e }
      txEnable := true }

/-- TRANSMIT_START (R150). The operand is the idle count at which it comes; while the count stands elsewhere, or no
frame begins, the command leaves the state as it is (DESIGN CHOICE, log 3). -/
def execTransmitStart (idle : Nat) (s : State) : Host.Outcome State Fault Refusal :=
  whileRunning s fun s =>
    match s.beginsNow with
    | none => s
    | some (n, c, e) => if s.link.idleCount = idle then s.beginAttempt n c e else s

/-- The end of an attempt: PB_TXEN goes low and the idle count starts again (R151). -/
def State.endAttempt (s : State) : State :=
  s.updLink fun l => { l.seen with attempt := none, txEnable := false }

/-- The head of a queue leaves it. -/
def State.dropHead (s : State) (c : QueueClass) : State :=
  s.updLink fun l => l.setQueue c (l.queue c).tail

/-- The greatest retry number: a collision at it discards the frame (R151, R152). -/
def lastRetry : Nat := 3

/-- The frame of a collided attempt is tried again later, its retry number up by one (R151). -/
def State.retryHead (s : State) (c : QueueClass) : State :=
  s.updLink fun l => l.setQueue c ((l.queue c).modifyHead fun e => { e with retry := e.retry + 1 })

/-- The frame of a fourth collided attempt is discarded (R152); of the PATH or URGENT class in RUN it is an own LINK jam
(R79). -/
def State.discardHead (s : State) (c : QueueClass) : State :=
  let discarded := (s.dropHead c).count .transmitDiscard
  if s.path.state = .run ∧ c ≠ .report then discarded.raiseJams [linkReport] else discarded

/-- COLLISION (R151). Without an attempt in progress nothing is read back (DESIGN CHOICE, log 3). -/
def execCollision (s : State) : Host.Outcome State Fault Refusal :=
  whileRunning s fun s =>
    match s.link.attempt with
    | none => s
    | some a =>
      let stopped := s.endAttempt.count .transmitRetry
      match (s.link.queue a.cls).head? with
      | none => stopped
      | some e => if lastRetry ≤ e.retry then stopped.discardHead a.cls else stopped.retryHead a.cls

/-- TRANSMIT_COMPLETE (R151): the frame leaves its queue. -/
def execTransmitComplete (s : State) : Host.Outcome State Fault Refusal :=
  whileRunning s fun s =>
    match s.link.attempt with
    | none => s
    | some a => s.endAttempt.dropHead a.cls

end Sys2Proof.Machine
end

