-- ==== Sys2Proof/Machine/SensorCommands.lean ====
section
/-! DEFINITION. The commands of the Sensor Front End and the halt line: SENSOR_INPUT_CHANGE, FILTER_CONFIRM, RAW_EDGE,
COVER_INPUT_CHANGE, COVER_CONFIRM and HALT_LINE_CHANGE (chapter 3.1, R98, R99). -/

namespace Sys2Proof.Machine

/-- The level at a sensor's pin changes. -/
def State.setPin (s : State) (k : Fin 4) (level : Level) : State :=
  s.updSensor k fun x => { x with pin := level }

/-- An input followed without edges: its stable level is the sample (R38). -/
def State.follow (s : State) (k : Fin 4) (level : Level) : State :=
  s.updSensor k fun x => { x with stable := level }

/-- A sample of a FILTERED sensor (R39): it forms the candidate, leaves it, or discards it with a chatter count. -/
def State.sampleFiltered (s : State) (k : Fin 4) (level : Level) : State :=
  match s.front.sensors[k].candidate with
  | none =>
    if level = s.front.sensors[k].stable then s
    else s.updSensor k fun x => { x with candidate := some { level := level, start := s.now } }
  | some _ =>
    if level = s.front.sensors[k].stable then (s.updSensor k fun x => { x with candidate := none }).count .chatter
    else s

/-- SENSOR_INPUT_CHANGE (R38, R39): a sample of a FILTERED sensor, or of an input followed without edges. On a RAW
sensor the level at the pin changes, and its sample is the event RAW_EDGE (DESIGN CHOICE, log 18). -/
def execSensorInputChange (k : Fin 4) (level : Level) (s : State) : Host.Outcome State Fault Refusal :=
  whileRunning s fun s =>
    match s.front.sensors[k].mode with
    | .filtered => (s.setPin k level).sampleFiltered k level
    | .followed => (s.setPin k level).follow k level
    | .raw => s.setPin k level

/-- The candidate of a FILTERED sensor has been sampled on FILTER consecutive ticks, the first being its start (R39). -/
def State.filterReached (s : State) (k : Fin 4) (c : Candidate Level) : Bool :=
  s.front.sensors[k].mode == .filtered && reached s.now (tickPlus c.start (s.prof.filter - 1))

/-- FILTER_CONFIRM (R39): the stable level becomes the candidate level, the candidate is discarded, and the edge is
handed on with the candidate's start as its capture. Without a candidate that has held, nothing is confirmed (DESIGN
CHOICE, log 3). -/
def execFilterConfirm (k : Fin 4) (s : State) : Host.Outcome State Fault Refusal :=
  whileRunning s fun s =>
    match s.front.sensors[k].candidate with
    | none => s
    | some c =>
      if s.filterReached k c then
        (s.updSensor k fun x => { x with stable := c.level, candidate := none }).takeEdge k c.level c.start
      else s

/-- RAW_EDGE (R40): a RAW sensor's sample that differs from its stable level is handed on at once, captured at this
tick; an input followed without edges takes the sample as its level (R38). On a FILTERED sensor the level at the pin
changes, and its sample is the event SENSOR_INPUT_CHANGE (DESIGN CHOICE, log 18). -/
def execRawEdge (k : Fin 4) (level : Level) (s : State) : Host.Outcome State Fault Refusal :=
  whileRunning s fun s =>
    match s.front.sensors[k].mode with
    | .raw =>
      if level = s.front.sensors[k].stable then s.setPin k level
      else ((s.setPin k level).follow k level).takeEdge k level s.now
    | .followed => (s.setPin k level).follow k level
    | .filtered => s.setPin k level

/-- The cover debounce, in ticks (R42). -/
def coverTicks : Nat := 50

/-- COVER_INPUT_CHANGE (R42): a sample that differs from the debounced level forms the cover candidate; an equal one
discards it, uncounted. -/
def execCoverInputChange (level : CoverLevel) (s : State) : Host.Outcome State Fault Refusal :=
  whileRunning s fun s =>
    let start := s.now
    s.updCover fun v =>
      if level = v.level then { v with pin := level, candidate := none }
      else
        match v.candidate with
        | none => { v with pin := level, candidate := some { level := level, start := start } }
        | some _ => { v with pin := level }

/-- The debounced cover level changes, and DRV with it (R42, R96). -/
def State.setCover (s : State) (level : CoverLevel) : State :=
  (s.updCover fun v => { v with level := level, candidate := none }).updPath fun c =>
    { c with drv := drives c.state level }

/-- The cover candidate has been sampled on 50 consecutive ticks (R42). -/
def State.coverReached (s : State) (c : Candidate CoverLevel) : Bool :=
  reached s.now (tickPlus c.start (coverTicks - 1))

/-- COVER_CONFIRM (R42, R117): the debounced level changes, DRV with it, and the cover event is answered by state. -/
def execCoverConfirm (s : State) : Host.Outcome State Fault Refusal :=
  whileRunning s fun s =>
    match s.front.cover.candidate with
    | none => s
    | some c =>
      if s.coverReached c then
        match c.level with
        | .opened => (s.setCover .opened).coverOpens
        | .closed => (s.setCover .closed).coverCloses
      else s

/-- HALT_N is sampled (R98): the sample is kept as the line level, and a low one in RUN is a line observation (R99). -/
def State.sampleLine (s : State) : State :=
  let sampled := s.updPath fun c => { c with lineHigh := s.lineSample }
  if s.path.state = .run ∧ s.lineSample = false then sampled.observeLine else sampled

/-- Another party comes to hold HALT_N, or the last one releases it. -/
def State.setOthersHold (s : State) (othersHold : Bool) : State :=
  s.updPath fun c => { c with othersHold := othersHold }

/-- HALT_LINE_CHANGE (R98): the other parties come to hold the line or to release it (DESIGN CHOICE, log 7), and the
line is sampled. In reset no sample is taken (DESIGN CHOICE, log 8). -/
def execHaltLineChange (othersHold : Bool) (s : State) : Host.Outcome State Fault Refusal :=
  .next (if s.inReset then s.setOthersHold othersHold else (s.setOthersHold othersHold).sampleLine)

end Sys2Proof.Machine
end

