-- ==== Sys2Proof/Machine/Dispatch.lean ====
section
/-! DEFINITION. One arm per command. -/

namespace Sys2Proof.Machine

def exec (i : Instr) (s : State) : Host.Outcome State Fault Refusal :=
  match i with
  | .hardwareReset => Sys2Proof.Machine.execHardwareReset s
  | .resetRelease straps sns cvr => Sys2Proof.Machine.execResetRelease straps sns cvr s
  | .sensorInputChange k level => Sys2Proof.Machine.execSensorInputChange k level s
  | .filterConfirm k => Sys2Proof.Machine.execFilterConfirm k s
  | .rawEdge k level => Sys2Proof.Machine.execRawEdge k level s
  | .coverInputChange level => Sys2Proof.Machine.execCoverInputChange level s
  | .coverConfirm => Sys2Proof.Machine.execCoverConfirm s
  | .haltLineChange othersHold => Sys2Proof.Machine.execHaltLineChange othersHold s
  | .leadExpiry sheet => Sys2Proof.Machine.execLeadExpiry sheet s
  | .trailExpiry sheet => Sys2Proof.Machine.execTrailExpiry sheet s
  | .takeExpiry sheet => Sys2Proof.Machine.execTakeExpiry sheet s
  | .decideTimerExpiry => Sys2Proof.Machine.execDecideTimerExpiry s
  | .stopSettleExpiry => Sys2Proof.Machine.execStopSettleExpiry s
  | .coverSettleExpiry => Sys2Proof.Machine.execCoverSettleExpiry s
  | .setup source f => Sys2Proof.Machine.execSetup source f s
  | .hello source f => Sys2Proof.Machine.execHello source f s
  | .launch source tag => Sys2Proof.Machine.execLaunch source tag s
  | .handoff source tag age => Sys2Proof.Machine.execHandoff source tag age s
  | .taken source sheet => Sys2Proof.Machine.execTaken source sheet s
  | .speed source value => Sys2Proof.Machine.execSpeed source value s
  | .resume source epoch => Sys2Proof.Machine.execResume source epoch s
  | .restart source => Sys2Proof.Machine.execRestart source s
  | .queryStatus source => Sys2Proof.Machine.execQueryStatus source s
  | .queryCensus source => Sys2Proof.Machine.execQueryCensus source s
  | .jam source f => Sys2Proof.Machine.execJam source f s
  | .untakenFrame source type payload => Sys2Proof.Machine.execUntakenFrame source type payload s
  | .frameAbandon c => Sys2Proof.Machine.execFrameAbandon c s
  | .assemblerIdle idle => Sys2Proof.Machine.execAssemblerIdle idle s
  | .transmitStart idle => Sys2Proof.Machine.execTransmitStart idle s
  | .collision => Sys2Proof.Machine.execCollision s
  | .transmitComplete => Sys2Proof.Machine.execTransmitComplete s
  | .markedCharacter value => Sys2Proof.Machine.execMarkedCharacter value s

end Sys2Proof.Machine
end

