-- ==== Sys2Proof/Config.lean ====
section
/-! DEFINITION. What the manual leaves open: the order of events that come due together. -/

namespace Sys2Proof

/-- FREE VALUE (DESIGN CHOICE, log 2). Where several events come due at one tick the manual lets them be taken in either
order (R55, R59, R92, R100, R108, R115, R130). The station takes the one this names, drawn with a fresh argument each
time: nothing constrains it, so a claim holds for every order. -/
opaque Config.eventOrder : Nat → Nat

end Sys2Proof
end

