-- ==== Sys2Proof/Machine/TimeBase.lean ====
section
/-! DEFINITION. The passing of time, in ticks (R21) and in character times (R144), and the events the station finds due
by itself (R22, R38, R39, R42, R98, R100, R145, R147, R150), which the empty queue's step takes before time passes on
(DESIGN CHOICE, log 1). -/

namespace Sys2Proof.Machine

/-- Crystal periods in a tick: 4 MHz divided by 400 (R21). -/
def crystalPerTick : Nat := 400

/-- Crystal periods in a character time: eleven bits at 1 Mbit/s from 4 MHz (R144). -/
def crystalPerCharacter : Nat := 44

/-- Crystal periods pass in the Window Unit: at the end of a tick the time base advances by one, and after 65535 it
continues from 0 (R21). -/
def WindowUnit.advance (w : WindowUnit) (periods : Nat) : WindowUnit :=
  if crystalPerTick ≤ w.crystal + periods then { w with timeBase := w.timeBase + 1, crystal := 0 }
  else { w with crystal := w.crystal + periods }

/-- Crystal periods pass at the line with no start bit from another party: at the end of a character time the idle count
rises by one; in an attempt it stays, the station's own characters being seen (R144; DESIGN CHOICE, log 4). -/
def Link.advance (l : Link) (periods : Nat) : Link :=
  if crystalPerCharacter ≤ l.charClock + periods then
    { l with charClock := 0, idleCount := if l.attempt.isSome then l.idleCount else l.idleCount + 1 }
  else { l with charClock := l.charClock + periods }

/-- The crystal periods to the end of the tick or of the character time, whichever comes first. -/
def State.periodsLeft (s : State) : Nat :=
  min (crystalPerTick - s.window.crystal) (crystalPerCharacter - s.link.charClock)

/-- Time passes to the end of the tick or of the character time. -/
def State.passTime (s : State) : State :=
  (s.updWindow fun w => w.advance s.periodsLeft).updLink fun l => l.advance s.periodsLeft

/-- The samples and confirmations due at sensor `k`: its pin's level is sampled every tick (R38 to R40). -/
def State.sensorDue (s : State) (k : Fin 4) : List Instr :=
  let x := s.front.sensors[k]
  match x.mode with
  | .followed => if x.pin = x.stable then [] else [.sensorInputChange k x.pin]
  | .raw => if x.pin = x.stable then [] else [.rawEdge k x.pin]
  | .filtered =>
    match x.candidate with
    | none => if x.pin = x.stable then [] else [.sensorInputChange k x.pin]
    | some c =>
      if x.pin = x.stable then [.sensorInputChange k x.pin]
      else if s.filterReached k c then [.filterConfirm k]
      else []

/-- The sample and confirmation due at the cover switch (R42). -/
def State.coverDue (s : State) : List Instr :=
  let v := s.front.cover
  match v.candidate with
  | none => if v.pin = v.level then [] else [.coverInputChange v.pin]
  | some c =>
    if v.pin = v.level then [.coverInputChange v.pin] else if s.coverReached c then [.coverConfirm] else []

/-- The sample due at the halt line: it differs from the line level kept (R98). Where an event changes the station's own
hold, a sample of the same tick follows it, so the change shows before the next tick (DESIGN CHOICE, log 21). -/
def State.lineDue (s : State) : List Instr :=
  if s.lineSample = s.path.lineHigh then [] else [.haltLineChange s.path.othersHold]

/-- The expiries due of one record (R22). -/
def State.recordDue (s : State) (r : Record) : List Instr :=
  (if s.expires (windowDue r.leadWindow) then [.leadExpiry r.tag.sheetId] else [])
    ++ (if s.expires (windowDue r.trailWindow) then [.trailExpiry r.tag.sheetId] else [])
    ++ (if s.expires r.takeDue then [.takeExpiry r.tag.sheetId] else [])

/-- The timer expiries due, each in the state that started its timer (R100). -/
def State.timersDue (s : State) : List Instr :=
  (if s.path.state = .decide ∧ s.timerExpires s.path.decideTimer = true then [.decideTimerExpiry] else [])
    ++ (if s.path.state = .stopping ∧ s.timerExpires s.path.stopSettle = true then [.stopSettleExpiry] else [])
    ++ (if s.path.state = .verify ∧ s.timerExpires s.path.coverSettle = true then [.coverSettleExpiry] else [])

/-- What is due at the line: an idle count above 2 ends PASSING (R145) or abandons the frame being collected (R147), and
the offered frame begins (R150). -/
def State.linkDue (s : State) : List Instr :=
  (match s.link.assembler with
    | .waiting => []
    | .taking => if s.lineGap then [.frameAbandon none] else []
    | .passing => if s.lineGap then [.assemblerIdle s.link.idleCount] else [])
    ++ match s.beginsNow with
      | none => []
      | some _ => [.transmitStart s.link.idleCount]

/-- The events due at present. -/
def State.dueEvents (s : State) : List Instr :=
  s.sensorDue 0 ++ s.sensorDue 1 ++ s.sensorDue 2 ++ s.sensorDue 3 ++ s.coverDue ++ s.lineDue
    ++ s.tracker.table.flatMap s.recordDue ++ s.timersDue ++ s.linkDue

/-- The due event taken next: the only one, or the one the free order names (DESIGN CHOICE, log 2). -/
def State.chosenEvent (s : State) (e : Instr) (rest : List Instr) : Instr :=
  match rest with
  | [] => e
  | _ :: _ => (e :: rest).getD (Config.eventOrder s.eventsDrawn % (rest.length + 1)) e

/-- One order drawn. -/
def State.drawOrder (s : State) : State :=
  { s with eventsDrawn := s.eventsDrawn + 1 }

end Sys2Proof.Machine
end

