-- ==== Sys2Proof/Machine/Step.lean ====
section
/-! DEFINITION. One step of the station: the command at the front of the queue, or, with none waiting, a due event, or
the passing of time (DESIGN CHOICE, log 1). -/

namespace Sys2Proof.Machine

/-- The step with no command waiting: in reset time stands (R21); otherwise a due event is taken, and with none due
time passes. -/
def idleStep (s : State) : Host.Outcome State Fault Refusal :=
  if s.inReset then .next s
  else
    match s.dueEvents with
    | [] => .next s.passTime
    | e :: rest => exec (s.chosenEvent e rest) s.drawOrder

/-- One step. -/
def step (s : State) : Host.Outcome State Fault Refusal :=
  match s.pending with
  | c :: rest => exec c { s with pending := rest }
  | [] => idleStep s

/-- The state with the command a table word spells put at the front of its queue; no table word spells one (DESIGN
CHOICE, log 20). -/
def State.withFetchWord (s : State) (nbits w : Nat) : State :=
  match decodeTableWord nbits w with
  | some i => { s with pending := i :: s.pending }
  | none => s

end Sys2Proof.Machine
end

