-- ==== Sys2Proof/Safety.lean ====
section
/-! DEFINITION. What holds of the station between any two steps, in groups that each step keeps by itself, and the
relations between two states that the statements speak of. -/

namespace Sys2Proof.Safety

open Sys2Proof.Machine

/-! ## Outputs and states (R96, R100, R101, R117) -/

/-- HALT_N is held and DRV driven as the state and the debounced cover level fix them (R96); in reset the state is
UNCONFIGURED (R97), and the station does not drive the path bus (R156). -/
def OutputsInv (s : State) : Prop :=
  (s.inReset = true → s.path.state = .unconfigured ∧ s.link.attempt = none ∧ s.link.txEnable = false)
    ∧ s.path.hold = holdsLine s.path.state ∧ s.path.drv = drives s.path.state s.front.cover.level

/-- Each timer runs in its own state and in no other (R100). -/
def TimersInv (s : State) : Prop :=
  (s.path.decideTimer.isSome ↔ s.path.state = .decide)
    ∧ (s.path.stopSettle.isSome ↔ s.path.state = .stopping)
    ∧ (s.path.coverSettle.isSome ↔ s.path.state = .verify)

/-- The states entered only with the cover CLOSED, and left when it opens (R117). -/
def closedCoverState : PathState → Bool
  | .standby => true
  | .run => true
  | .decide => true
  | .runout => true
  | .held => true
  | .verify => true
  | .unconfigured | .linking | .stopping | .clearing | .lockout => false

/-- The debounced cover level is CLOSED in the states entered only so, and OPEN in CLEARING (R117). -/
def CoverInv (s : State) : Prop :=
  (s.inReset = true → s.path.state = .unconfigured)
    ∧ (closedCoverState s.path.state = true → s.front.cover.level = .closed)
    ∧ (s.path.state = .clearing → s.front.cover.level = .opened)

/-- The profile and the current speed are absent in UNCONFIGURED and in no other state (R35, R101), and a profile's
numbers lie in the ranges SETUP leaves them in (R164, R165). -/
def ProfileInv (s : State) : Prop :=
  (s.setup.profile = none ↔ s.path.state = .unconfigured)
    ∧ (s.window.currentSpeed = none ↔ s.path.state = .unconfigured)
    ∧ (∀ v, s.window.currentSpeed = some v → 50 ≤ v ∧ v ≤ 1600)
    ∧ (∀ v, s.window.pendingSpeed = some v → 50 ≤ v ∧ v ≤ 1600)
    ∧ ∀ p, s.setup.profile = some p →
        1 ≤ p.n ∧ p.n ≤ 4 ∧ 1 ≤ p.rank ∧ p.rank ≤ 14 ∧ 1 ≤ p.filter ∧ p.filter ≤ 15 ∧ p.tolPct ≤ 50 ∧ p.slack ≤ 500
          ∧ p.lenTol ≤ 500 ∧ p.linkAllow ≤ 500 ∧ p.pickDelay ≤ 2000 ∧ 20 ≤ p.stopSettle ∧ p.stopSettle ≤ 2000
          ∧ 50 ≤ p.coverSettle ∧ p.coverSettle ≤ 5000

/-- A profile is as SETUP may leave it (R164, R165): no numeric field outside its range, the sensors of n at rising
positions up to 20000 dmm, no neighbour above 14 or of the station's own number, and no structural fault of the roles
and exits; in reset there is none (R159). -/
def ProfileRanges (s : State) : Prop :=
  (s.inReset = true → s.setup.profile = none)
    ∧ ∀ p, s.setup.profile = some p →
        (50 ≤ p.speed ∧ p.speed ≤ 1600)
          ∧ (p.positions.length = p.n ∧ p.modes.length = p.n)
          ∧ p.position 0 = 0
          ∧ (∀ j, j + 1 < p.n → p.position j < p.position (j + 1) ∧ p.position (j + 1) ≤ 20000)
          ∧ (∃ own, s.stationNumber = some own ∧ ∀ m ∈ [p.upA, p.upB, p.exitA, p.exitB], m ≤ 14 ∧ m ≠ own)
          ∧ (p.exitB ≠ 0 → p.divert.isSome)
          ∧ (p.roles.feed = true → p.bridgeA ≠ 0)
          ∧ (p.roles.delivery = true → p.exitA = 0)

/-! ## Jams (R81, R86, R87) -/

/-- With the capture empty, the items beside it are empty (R81, R83, R86); the later count never exceeds 255 (R86). -/
def JamInv (s : State) : Prop :=
  (s.jam.capture = none →
      s.jam.laterSet = 0 ∧ s.jam.laterCount = 0 ∧ s.jam.highestRank = 0 ∧ s.jam.jamSent = false)
    ∧ s.jam.laterCount ≤ 255

/-! ## The Link Controller (R149, R151) -/

/-- No queue exceeds its depth, no retry number exceeds 3 (R149), PB_TXEN is driven during an attempt and at no other
time, the frame of an attempt stands at the head of its queue with its started mark set (R149, R151), and characters are
held in TAKING alone, of a frame that is not at its end and has shown no fault (R145, R147). -/
def LinkInv (s : State) : Prop :=
  (∀ c, (s.link.queue c).length ≤ queueDepth c)
    ∧ (∀ c, ∀ e ∈ s.link.queue c, e.retry ≤ 3)
    ∧ s.link.txEnable = s.link.attempt.isSome
    ∧ (∀ a, s.link.attempt = some a → ∃ e, (s.link.queue a.cls).head? = some e ∧ e.started = true)
    ∧ (s.link.assembler ≠ .taking → s.link.collecting = [])
    ∧ (s.link.assembler = .taking → s.link.collecting ≠ [] ∧ decodeFrame s.link.collecting = .error .idleGap)

/-- The clocks that divide the crystal stand within a tick and within a character time (R21, R144). -/
def ClocksInv (s : State) : Prop :=
  s.window.crystal < 400 ∧ s.link.charClock < 44

/-! ## Sheets (chapter 1) -/

/-- A record is as the table of R7 gives it for its phase, at a station of `n` sensors, with one lead capture for each
sensor caught (R4) and the exit fields of R6. -/
def RecordShape (n : Nat) (r : Record) : Prop :=
  r.trailIndex ≤ r.leadIndex ∧ r.leadIndex ≤ n ∧ r.leadCaptures.length = r.leadIndex
    ∧ (r.leadWindow.isSome ↔ r.leadIndex < n)
    ∧ (r.trailWindow.isSome ↔ r.trailIndex < r.leadIndex)
    ∧ match r.phase with
      | .inbound => r.leadIndex = 0 ∧ r.outputBound = none ∧ r.taken = none ∧ r.takeDue = none
      | .resident => 1 ≤ r.leadIndex ∧ r.outputBound = none ∧ r.taken = none ∧ r.takeDue = none
      | .outbound =>
        r.leadIndex = n
          ∧ ((r.outputBound = some true ∧ r.taken = none ∧ r.takeDue = none)
            ∨ (r.outputBound = some false ∧ r.taken.isSome))

/-- The order of two records of the table, the first nearer the front: the resident part stands before the INBOUND part
(R9), and the indices do not grow toward the back (R10). -/
def InOrder (a b : Record) : Prop :=
  (a.isInbound = true → b.isInbound = true) ∧ b.leadIndex ≤ a.leadIndex ∧ b.trailIndex ≤ a.trailIndex

/-- The Sheet Table: at most 8 records, no two of one sheet id (R8), in the order of R9 and R10, each as R7 gives it,
and none while the profile is absent; and what matching rests on: a profile has a sensor (R164), and the inputs that
give edges are those below n (R38). -/
def TableInv (s : State) : Prop :=
  s.tracker.table.length ≤ 8
    ∧ s.tracker.table.Pairwise (fun a b => a.tag.sheetId ≠ b.tag.sheetId)
    ∧ s.tracker.table.Pairwise InOrder
    ∧ (∀ r ∈ s.tracker.table, RecordShape s.prof.n r)
    ∧ (s.path.state = .unconfigured → s.tracker.table = [])
    ∧ (s.setup.profile = none → s.tracker.table = [])
    ∧ (∀ p, s.setup.profile = some p → 1 ≤ p.n)
    ∧ ∀ k : Fin 4, s.front.sensors[k].mode ≠ .followed → k.val < s.prof.n

/-- The pending speed is present only while the Sheet Table holds a record (R35). -/
def SpeedInv (s : State) : Prop :=
  s.window.pendingSpeed.isSome → s.tracker.table ≠ []

/-- The Sheet Table is empty in UNCONFIGURED, LINKING and STANDBY (R103). -/
def EmptyInv (s : State) : Prop :=
  s.path.state = .unconfigured ∨ s.path.state = .linking ∨ s.path.state = .standby → s.tracker.table = []

/-- The run-out list: at most 8 tags, no two of one sheet id (R18). -/
def RunOutInv (s : State) : Prop :=
  s.tracker.runOut.length ≤ 8 ∧ s.tracker.runOut.Pairwise (fun a b => a.sheetId ≠ b.sheetId)

/-- Some deadline of a record is armed (R5). -/
def Armed (r : Record) : Prop :=
  (windowDue r.leadWindow).isSome ∨ (windowDue r.trailWindow).isSome ∨ r.takeDue.isSome

/-- A deadline is armed in RUN, DECIDE and RUNOUT alone (R110, R111), and in RUNOUT no entry lead deadline is
(R121, R123). -/
def DeadlinesInv (s : State) : Prop :=
  (∀ r ∈ s.tracker.table, Armed r → armingState s.path.state = true)
    ∧ (s.path.state = .runout → ∀ r ∈ s.tracker.table, r.isInbound = true → windowDue r.leadWindow = none)

/-! ## Sensors (R38, R39) -/

/-- A sensor is treated as the profile gives (R38), and only a FILTERED sensor has a candidate, of the other level than
its stable one (R39). -/
def SensorsInv (s : State) : Prop :=
  (s.inReset = true → s.setup.profile = none)
    ∧ ∀ k : Fin 4,
        s.front.sensors[k].mode = inputModeOf s.prof k.val
          ∧ ∀ c, s.front.sensors[k].candidate = some c →
              s.front.sensors[k].mode = .filtered ∧ c.level ≠ s.front.sensors[k].stable

/-! ## Relations between two states -/

/-- No counter is lower in the second set than in the first (R155). -/
def CountersGrow (k t : Counters) : Prop :=
  k.delivered ≤ t.delivered ∧ k.passed ≤ t.passed ∧ k.slip ≤ t.slip ∧ k.chatter ≤ t.chatter
    ∧ k.receiveError ≤ t.receiveError ∧ k.transmitRetry ≤ t.transmitRetry ∧ k.transmitDiscard ≤ t.transmitDiscard
    ∧ k.reportDrop ≤ t.reportDrop ∧ k.refused ≤ t.refused ∧ k.residue ≤ t.residue ∧ k.clamp ≤ t.clamp

/-! ## What the rules say an event leaves, written out for the statements -/

/-- The jam items as an event of an own jam finds them when it is the first of the epoch: no own jam and no JAM frame
is recorded, so the capture is empty or LINE (R83, R85), and the JAM frame has room in its queue (R88). -/
def FirstJam (s : State) : Prop :=
  s.jam = JamMonitor.clear
    ∨ s.jam = { JamMonitor.clear with
        capture := some { cause := .line, kind := none, sensor := none, sheetId := none, origin := none, rank := none } }

/-- A JAM frame finds room (R149), at a station that sends (R156). -/
def JamRoom (s : State) : Prop :=
  s.strapFault = false ∧ s.link.urgent.length < 2

/-- The Path State Controller's items after STOPPING entry (R96, R110). -/
def stoppedPath (s : State) : PathController :=
  { s.path with
    state := .stopping, hold := true, drv := false, decideTimer := none,
    stopSettle := some (s.window.timeBase + BitVec.ofNat 16 s.prof.stopSettle), coverSettle := none }

/-- The PATH queue after the HANDOFF flush (R153). -/
def keptAtFlush (q : List Entry) : List Entry :=
  q.filter fun e => !(e.isHandoff && !e.started)

/-- The capture an own jam report fills (R83). -/
def ownCapture (s : State) (r : JamReport) : Capture :=
  { cause := .own, kind := some r.kind, sensor := r.sensor, sheetId := r.sheetId, origin := s.stationNumber,
    rank := some s.prof.rank }

/-- The JAM frame of an own jam report, as queued (R88). -/
def ownJamEntry (s : State) (r : JamReport) : Entry :=
  { dest := 15, body := .jam { report := r, rank := s.prof.rank, epoch := s.path.epoch }, retry := 0, started := false }

/-- The state after the first own jam of the epoch, found in RUN or DECIDE: the capture, the JAM frame, the HANDOFF
flush on leaving RUN, and STOPPING (R83, R87, R88, R106 to R108, R110). -/
def stoppedFor (s : State) (r : JamReport) : State :=
  { s with
    jam :=
      { capture := some (ownCapture s r), laterSet := 0, laterCount := 0, highestRank := s.prof.rank, jamSent := true }
    path := stoppedPath s
    tracker := { s.tracker with table := s.tracker.table.map Record.disarmed }
    link :=
      { s.link with
        urgent := s.link.urgent ++ [ownJamEntry s r]
        path := if s.path.state = .run then keptAtFlush s.link.path else s.link.path } }

/-- The state after STOPPING entry without a jam of this station (R110). -/
def stoppedQuietly (s : State) : State :=
  { s with
    path := stoppedPath s
    tracker := { s.tracker with table := s.tracker.table.map Record.disarmed } }

/-- The Path State Controller's items in a state without a timer (R96, R100). -/
def pathIn (s : State) (st : PathState) : PathController :=
  { s.path with
    state := st, hold := holdsLine st, drv := drives st s.front.cover.level, decideTimer := none, stopSettle := none,
    coverSettle := none }

/-- The window with given offsets from an anchor, armed at the present tick or stored disarmed (R5, R25). -/
def windowFrom (s : State) (anchor : Tick) (o : Offsets) (armed : Bool) : Window :=
  { early := anchor + BitVec.ofNat 16 o.early
    expected := anchor + BitVec.ofNat 16 o.expected
    due := if armed then some { tick := anchor + BitVec.ofNat 16 o.due, armedAt := s.window.timeBase } else none }

/-- The offsets of a lead window over a distance at the current speed (R23 to R25). -/
def leadOffsetsOver (s : State) (heavy : Bool) (d : Nat) : Offsets :=
  let T := transit d (s.window.currentSpeed.getD 0)
  windowOffsets T (T * s.prof.tolPct / 100 + s.prof.slack * if heavy then 2 else 1)

/-- The offsets of a trail window of a sheet of a length at the current speed (R24, R28). -/
def trailOffsetsOf (s : State) (length : Nat) : Offsets :=
  windowOffsets (transit length (s.window.currentSpeed.getD 0)) (transit s.prof.lenTol (s.window.currentSpeed.getD 0))

/-- The record an announcement creates (R2, R11 to R13). -/
def announced (s : State) (tag : WireTag) (source : Source) (d : Nat) (anchor : Tick) (armed : Bool) : Record :=
  let o := leadOffsetsOver s tag.heavy d
  { tag :=
      { sheetId := tag.sheetId, job := tag.job, page := tag.page, side := sideOfCode tag.side,
        length := max 1000 (min 6000 tag.length.toNat), heavy := tag.heavy }
    source := source
    exit := exitFor s.prof (sideOfCode tag.side)
    phase := .inbound
    entryAnchor := anchor
    expectedEntry := anchor + BitVec.ofNat 16 o.expected
    leadIndex := 0
    trailIndex := 0
    leadCaptures := []
    leadWindow := some (windowFrom s anchor o armed)
    trailWindow := none
    takeDue := none
    taken := none
    outputBound := none
    entryInRunout := false }

/-- How often a creation clamps: the tag's length (R2) and a saturated entry window (R25). -/
def creationClamps (s : State) (tag : WireTag) (d : Nat) : Nat :=
  (if tag.length.toNat < 1000 ∨ 6000 < tag.length.toNat then 1 else 0)
    + (if (leadOffsetsOver s tag.heavy d).saturated then 1 else 0)

/-- The gate position after the judgement at the end of an event (R59), from the table as the event leaves it. -/
def gateAfter (n : Nat) (gate : Exit) (table : List Record) : Exit :=
  if table.any fun r => r.leadIndex == n && decide (r.trailIndex < n) then gate
  else
    match table.find? fun r => decide (r.leadIndex < n) with
    | some r => r.exit
    | none => gate

/-- A pending speed is applied when a removal leaves the table empty (R20, R37). -/
def windowAfterRemoval (w : WindowUnit) (left : List Record) : WindowUnit :=
  match left, w.pendingSpeed with
  | [], some v => { w with currentSpeed := some v, pendingSpeed := none }
  | [], none => w
  | _ :: _, _ => w

/-- A REPORT frame as queued: never tried, not started (R149). -/
def fresh (dest : Nat) (body : Body) : Entry :=
  { dest := dest, body := body, retry := 0, started := false }

/-- The state at the end of a received frame: the assembler waits, and the line is idle from here (R144, R145). -/
def received (s : State) : State :=
  { s with link := { s.link with assembler := .waiting, collecting := [], idleCount := 0, charClock := 0 } }

/-- The frame of a command is being collected (R145; log 5): the characters held are the first of a frame that, ended as
the command is encoded and with the CRC of what has come, reads as that command. The bits R170 marks unused may be any
in them. -/
def Awaits (s : State) (i : Instr) : Prop :=
  s.link.assembler = .taking ∧ s.link.collecting ≠ []
    ∧ ∃ bytes, encodeFrame 0 i = some bytes
      ∧ let body := s.link.collecting ++ (bytes.drop s.link.collecting.length).dropLast
        decodeFrame (body ++ [crc8 body]) = .ok i

/-- A command brings the end of the frame of `i`: it is that frame's own command, or the character that ends the frame
collected comes by itself (R145, R148; log 4). -/
def Brings (s : State) (c i : Instr) : Prop :=
  c = i
    ∨ ∃ last, c = .frameAbandon (some { data := last, mark := false, stop := true }) ∧ s.link.assembler = .taking
        ∧ decodeFrame (s.link.collecting ++ [last]) = .ok i

/-- A received frame that is counted as refused and changes nothing else (R148, R155). -/
def refusedOnce (s : State) : State :=
  { received s with counters := { s.counters with refused := raised s.counters.refused 1 } }

/-- A frame joins the end of the REPORT queue (R149). -/
def reported (s : State) (dest : Nat) (body : Body) : State :=
  { s with link := { s.link with report := s.link.report ++ [fresh dest body] } }

/-- A request to queue a notice, HELLO or STATUS: the frame joins REPORT, or is dropped and counted where that holds its
depth (R149); a station with a strap fault queues nothing and counts nothing (R156). -/
def asked (s : State) (dest : Nat) (body : Body) : State :=
  if s.strapFault = true then s
  else if s.link.report.length < 6 then reported s dest body
  else { s with counters := { s.counters with reportDrop := raised s.counters.reportDrop 1 } }

/-- Notices requested in order: each joins REPORT, or is dropped and counted where that holds its depth (R149, R156). -/
def noticed (s : State) (notices : List Notice) : State :=
  let room := 6 - s.link.report.length
  if s.strapFault = true then s
  else
    { s with
      link := { s.link with report := s.link.report ++ (notices.take room).map fun x => fresh 0 (.notice x) }
      counters := { s.counters with reportDrop := raised s.counters.reportDrop (notices.length - room) } }

/-- HANDOFFs and TAKENs requested in order, and the own jams this brings: each joins PATH, or is the own jam LINK where
that holds its depth (R79, R149); a station with a strap fault queues nothing (R156). -/
def pathAsked (s : State) (frames : List Entry) : State × List JamReport :=
  let room := 8 - s.link.path.length
  if s.strapFault = true then (s, [])
  else
    ({ s with link := { s.link with path := s.link.path ++ frames.take room } },
      List.replicate (frames.length - room) { kind := .link, sensor := none, sheetId := none })

/-- A sensor's items replaced. -/
def withSensor (s : State) (k : Fin 4) (x : Sensor) : State :=
  { s with front := { s.front with sensors := s.front.sensors.set k x } }

/-- A Sheet Table left by an event that advances or adds records, with the gate judged at its end (R59). -/
def withTable (s : State) (table : List Record) : State :=
  { s with tracker := { s.tracker with table := table, gate := gateAfter s.prof.n s.tracker.gate table } }

/-- A Sheet Table left by a removal: the pending speed is applied when none is left, and the gate is judged (R20, R37,
R59). -/
def withRemoval (s : State) (left : List Record) : State :=
  { withTable s left with window := windowAfterRemoval s.window left }

/-- A slip of a matched lead capture and the saturated windows of a match, counted (R30, R60). -/
def matchCounts (s : State) (w : Window) (c : Tick) (clamps : Nat) : Counters :=
  { s.counters with
    slip := raised s.counters.slip (if isSlip w c then 1 else 0), clamp := raised s.counters.clamp clamps }

/-- The notices of a lead capture `c` at sensor `k` matched against window `w` (R60, R61): SLIP for a slip unless the
report level is NONE, then TRACE at level TRACE. -/
def leadNotices (s : State) (k : Nat) (id : SheetId) (w : Window) (c : Tick) : List Notice :=
  (if isSlip w c = true ∧ s.prof.report ≠ .none then [.slip id k (deviation c w.expected)] else [])
    ++ if s.prof.report = .trace then [.traceLead id k (deviation c w.expected)] else []

/-- The notice of a trail capture `c` of record `r` at sensor `k` (R34, R61): at level TRACE, with the length measured
from the record's lead capture there. -/
def trailNotices (s : State) (k : Nat) (r : Record) (c : Tick) : List Notice :=
  if s.prof.report = .trace then
    [.traceTrail r.tag.sheetId k
      (min 65535 ((c - r.leadCaptures.getD k 0).toNat * s.window.currentSpeed.getD 0 / 1000))]
  else []

/-- The TAKEN frame a matched entry LEAD queues to the upstream its record's source names; a LAUNCH has none (R71). -/
def takenFrames (s : State) (r : Record) : List Entry :=
  match r.source with
  | .launch => []
  | .upA => [fresh s.prof.upA (.taken r.tag.sheetId)]
  | .upB => [fresh s.prof.upB (.taken r.tag.sheetId)]

/-- The tag a HANDOFF carries: FRONT is sent as BACK toward exit A by a FLIP station (R66). -/
def handoffTag (s : State) (r : Record) : SheetTag :=
  { r.tag with
    side := if s.prof.roles.flip = true ∧ r.exit = .a ∧ r.tag.side = .front then Side.back else r.tag.side }

/-- The uncut offset of a take deadline (R29). -/
def takeOffsetOf (s : State) (r : Record) : Nat :=
  let T := transit (s.prof.reach r.exit) (s.window.currentSpeed.getD 0)
  T + (T * s.prof.tolPct / 100 + s.prof.slack * if r.tag.heavy then 2 else 1) + s.prof.linkAllow

/-- A record whose lead has reached the exit sensor at `c`, on its way to a neighbour: OUTBOUND, taken no, its take
deadline armed outside STOPPING (R29, R49). -/
def sentOut (s : State) (r : Record) (c : Tick) : Record :=
  { r with
    phase := .outbound
    outputBound := some false
    taken := some false
    takeDue :=
      if s.path.state = .stopping then none
      else some { tick := c + BitVec.ofNat 16 (min 30000 (takeOffsetOf s r)), armedAt := s.window.timeBase } }

/-- One for each saturated window of a list (R25). -/
def saturations (os : List Offsets) : Nat :=
  os.countP fun o => o.saturated

/-- An edge passes the early test of a window: it is not made in STOPPING (R44, R46, R50, R56). -/
def inTime (s : State) (w : Window) (c : Tick) : Prop :=
  s.path.state = .stopping ∨ before c w.early = false

/-- The lead window of a record for inner sensor `k`, its latest capture being `c` (R27): its offsets. -/
def innerOffsets (s : State) (r : Record) (k : Nat) : Offsets :=
  leadOffsetsOver s r.tag.heavy
    (if s.prof.anchoring = .anchored ∨ r.entryInRunout = true then s.prof.position k - s.prof.position (k - 1)
      else s.prof.entryDistance r.source + s.prof.position k)

/-- The lead window of a record for inner sensor `k`, its latest capture being `c` (R27). -/
def innerWindow (s : State) (r : Record) (k : Nat) (c : Tick) : Window :=
  windowFrom s (if s.prof.anchoring = .anchored ∨ r.entryInRunout = true then c else r.entryAnchor) (innerOffsets s r k)
    (armingState s.path.state)

/-- The trail window of a sheet for a sensor at which its lead capture is `c` (R28). -/
def trailWindowOf (s : State) (length : Nat) (c : Tick) : Window :=
  windowFrom s c (trailOffsetsOf s length) (armingState s.path.state)

/-! ## Reports as bytes, written out for the statements (11.2, 11.5) -/

/-- A number as two bytes, most significant byte first (R170). -/
def twoBytes (n : Nat) : List Byte :=
  [BitVec.ofNat 8 (n / 256), BitVec.ofNat 8 n]

/-- A signed value as two bytes, two's complement (11.2). -/
def twoSigned (v : Int) : List Byte :=
  [BitVec.ofInt 8 (v / 256), BitVec.ofInt 8 v]

/-- The state codes of 11.2, from 0 in this order. -/
def stateNumber (st : PathState) : Nat :=
  [PathState.unconfigured, .linking, .standby, .run, .decide, .runout, .stopping, .held, .clearing, .verify,
    .lockout].idxOf st

/-- The jam kind codes of 11.2, from 1 in this order, and 0 where the kind is absent. -/
def kindNumber : Option JamKind → Nat
  | none => 0
  | some kind =>
    [JamKind.late, .early, .stall, .short, .stray, .gate, .handoff, .tableFull, .duplicate, .link, .cover,
      .peer].idxOf kind + 1

/-- The cause codes of 11.2, from 0 in this order. -/
def causeNumber (cause : Cause) : Nat :=
  [Cause.own, .remote, .line].idxOf cause

/-- The reason codes of a REFUSED notice, from 1 in this order (11.5). -/
def reasonNumber (reason : RefuseReason) : Nat :=
  [RefuseReason.notRun, .notFeed, .tableFull, .duplicate].idxOf reason + 1

/-- The fate codes of R171, from 0 in this order. -/
def fateNumber (fate : Fate) : Nat :=
  [Fate.notFed, .stranded, .unconfirmed, .delivered].idxOf fate

/-- A packed sheet tag with its extra bits (11.2), for a length below 8192 dmm. -/
def packedTag (extra : Nat) (t : SheetTag) : List Byte :=
  twoBytes (4096 * extra + t.sheetId.toNat) ++ [t.job] ++ twoBytes t.page.toNat
    ++ twoBytes (16384 * [Side.simplex, .front, .back].idxOf t.side + (if t.heavy then 8192 else 0) + t.length)

/-- The capture summary of STATUS, bytes 4 to 9 (11.5). -/
def captureSummary : Option Capture → List Byte
  | none => [0x60, 255, 0x80, 0, 0, 0]
  | some c =>
    [BitVec.ofNat 8 (128 + 32 * causeNumber c.cause + kindNumber c.kind), BitVec.ofNat 8 (c.sensor.getD 255)]
      ++ (match c.sheetId with
        | some id => twoBytes id.toNat
        | none => [0x80, 0])
      ++ [BitVec.ofNat 8 (c.origin.getD 0), BitVec.ofNat 8 (c.rank.getD 0)]

/-- The pair code of an entry (R171). -/
def pairNumber (e : CensusEntry) : Nat :=
  e.leadIndex * (e.leadIndex + 1) / 2 + e.trailIndex

/-! ## What is due (logs 1, 21) -/

/-- An armed deadline has come to its end: its due tick is reached, and it was armed at an earlier tick (R22). -/
def Expired (s : State) (d : Deadline) : Prop :=
  reached s.window.timeBase d.tick = true ∧ d.armedAt ≠ s.window.timeBase

/-- The gap of a class, without the retry addition (R150). -/
def gapOf (own : Nat) : QueueClass → Nat
  | .urgent => 4 + own
  | .path => 20 + own
  | .report => 36 + own

/-- The frame offered: the head of the first non-empty queue in the order URGENT, PATH, REPORT (R150). -/
def Offers (s : State) (cls : QueueClass) (e : Entry) : Prop :=
  (s.link.queue cls).head? = some e
    ∧ (cls ≠ .urgent → s.link.urgent = [])
    ∧ (cls = .report → s.link.path = [])

/-- The events a station out of reset finds due: the samples that differ from what it holds (R38 to R40, R42, R98) or
discard a candidate (R39, R42), the candidates that have held (R39, R42), the deadlines and timers that have come to
their end (R22, R100), the idle counts above 2 (R145, R147) and the frame that begins (R150). -/
def Due (s : State) : Instr → Prop
  | .sensorInputChange k level =>
    let x := s.front.sensors[k]
    level = x.pin
      ∧ ((x.mode ≠ .raw ∧ (x.mode = .filtered → x.candidate = none) ∧ x.pin ≠ x.stable)
        ∨ (x.mode = .filtered ∧ x.candidate ≠ none ∧ x.pin = x.stable))
  | .filterConfirm k =>
    let x := s.front.sensors[k]
    x.mode = .filtered ∧ x.pin ≠ x.stable
      ∧ ∃ c, x.candidate = some c
        ∧ reached s.window.timeBase (c.start + BitVec.ofNat 16 (s.prof.filter - 1)) = true
  | .rawEdge k level =>
    let x := s.front.sensors[k]
    level = x.pin ∧ x.mode = .raw ∧ x.pin ≠ x.stable
  | .coverInputChange level =>
    let v := s.front.cover
    level = v.pin ∧ ((v.candidate = none ∧ v.pin ≠ v.level) ∨ (v.candidate ≠ none ∧ v.pin = v.level))
  | .coverConfirm =>
    let v := s.front.cover
    v.pin ≠ v.level ∧ ∃ c, v.candidate = some c ∧ reached s.window.timeBase (c.start + 49) = true
  | .haltLineChange others => others = s.path.othersHold ∧ s.path.lineHigh = (s.path.hold || others)
  | .leadExpiry id =>
    ∃ r ∈ s.tracker.table, r.tag.sheetId = id ∧ ∃ w d, r.leadWindow = some w ∧ w.due = some d ∧ Expired s d
  | .trailExpiry id =>
    ∃ r ∈ s.tracker.table, r.tag.sheetId = id ∧ ∃ w d, r.trailWindow = some w ∧ w.due = some d ∧ Expired s d
  | .takeExpiry id => ∃ r ∈ s.tracker.table, r.tag.sheetId = id ∧ ∃ d, r.takeDue = some d ∧ Expired s d
  | .decideTimerExpiry =>
    s.path.state = .decide ∧ ∃ d, s.path.decideTimer = some d ∧ reached s.window.timeBase d = true
  | .stopSettleExpiry =>
    s.path.state = .stopping ∧ ∃ d, s.path.stopSettle = some d ∧ reached s.window.timeBase d = true
  | .coverSettleExpiry =>
    s.path.state = .verify ∧ ∃ d, s.path.coverSettle = some d ∧ reached s.window.timeBase d = true
  | .frameAbandon c => c = none ∧ s.link.assembler = .taking ∧ 2 < s.link.idleCount
  | .assemblerIdle idle => s.link.assembler = .passing ∧ idle = s.link.idleCount ∧ 2 < idle
  | .transmitStart idle =>
    idle = s.link.idleCount ∧ s.link.attempt = none ∧ s.link.charClock = 0
      ∧ ∃ own cls e, s.stationNumber = some own ∧ Offers s cls e ∧ gapOf own cls + 16 * e.retry ≤ idle
  | .hardwareReset | .resetRelease _ _ _ | .setup _ _ | .hello _ _ | .launch _ _ | .handoff _ _ _ | .taken _ _
  | .speed _ _ | .resume _ _ | .restart _ | .queryStatus _ | .queryCensus _ | .jam _ _ | .untakenFrame _ _ _
  | .collision | .transmitComplete | .markedCharacter _ => False

end Sys2Proof.Safety
end

