-- ==== Sys2Proof/Certificates/Slice0/Obligations.lean ====
section
/-! DEFINITION. The statements for the provers. A statement that gives the whole next state as an equation says its
frame with it: what the equation does not change, the command leaves alone. -/

section Statements

open Sys2Proof Sys2Proof.Machine Sys2Proof.Safety

/-! ## The machine -/

/-- A step with a command waiting runs the front command on the state with the rest of the queue (the queue is the
model's own, log 1). -/
def Obligations.StepRunsFront : Prop :=
  ∀ (s : State) (c : Instr) (rest : List Instr), s.pending = c :: rest → step s = exec c { s with pending := rest }

/-- With no command waiting: in reset nothing moves; a due event is taken, any one of those due; with none due time
passes to the end of the tick of 400 crystal periods (R21) or of the character time of 44 (R144), whichever comes first,
and nothing else changes. The events due are those of `Due`, and no other: the samples that differ, the candidates that
have held, the deadlines and timers at their end, the gaps at the receiver and the frame that begins (R22, R38 to R40,
R42, R98, R100, R145, R147, R150). The step itself, and that a sample follows an event of its tick, is the model's
choice (logs 1, 2 and 21). -/
def Obligations.IdleStep : Prop :=
  ∀ s : State,
    (∀ e : Instr, e ∈ s.dueEvents ↔ Due s e)
      ∧ (s.pending = [] → s.inReset = true → step s = .next s)
      ∧ (s.pending = [] → s.inReset = false → s.dueEvents ≠ [] →
          ∃ e ∈ s.dueEvents, step s = exec e { s with eventsDrawn := s.eventsDrawn + 1 })
      ∧ (s.pending = [] → s.inReset = false → s.dueEvents = [] →
          let periods := min (400 - s.window.crystal) (44 - s.link.charClock)
          step s
            = .next
              { s with
                window :=
                  if 400 ≤ s.window.crystal + periods then
                    { s.window with timeBase := s.window.timeBase + 1, crystal := 0 }
                  else { s.window with crystal := s.window.crystal + periods }
                link :=
                  if 44 ≤ s.link.charClock + periods then
                    { s.link with
                      charClock := 0
                      idleCount := if s.link.attempt = none then s.link.idleCount + 1 else s.link.idleCount }
                  else { s.link with charClock := s.link.charClock + periods } })

/-- Every command answers a next state, in every state: the manual stops the station on none. Where a command's own
condition does not hold, and in reset, that is the model's choice (logs 3 and 8). -/
def Obligations.EveryCommandAnswers : Prop :=
  ∀ (c : Instr) (s : State), ∃ t, exec c s = .next t

/-- HARDWARE_RESET gives every block its reset value (R118 and the table of 10.2), holds HALT_N, turns DRV off and
leaves GATE and PB_TXEN low and PB_TX high (R156), whatever the state before. -/
def Obligations.HardwareReset : Prop :=
  ∀ s : State, ∃ t, exec .hardwareReset s = .next t
    ∧ t.inReset = true
    ∧ t.path.state = .unconfigured ∧ t.path.epoch = 0 ∧ t.path.hold = true ∧ t.path.drv = false
    ∧ t.path.decideTimer = none ∧ t.path.stopSettle = none ∧ t.path.coverSettle = none
    ∧ gatePin t = false ∧ t.link.txEnable = false ∧ t.link.attempt = none
    ∧ t.window.timeBase = 0 ∧ t.window.currentSpeed = none ∧ t.window.pendingSpeed = none
    ∧ t.tracker.table = [] ∧ t.tracker.runOut = [] ∧ t.tracker.lastDelivered = none ∧ t.tracker.gate = .a
    ∧ t.jam.capture = none ∧ t.jam.laterSet = 0 ∧ t.jam.laterCount = 0 ∧ t.jam.highestRank = 0
    ∧ t.jam.jamSent = false
    ∧ t.setup.profile = none
    ∧ (∀ n, 1 ≤ n → n ≤ 14 → t.rosterEntry n = { configured := false, rank := 0, roles := noRoles })
    ∧ t.census = none
    ∧ t.link.urgent = [] ∧ t.link.path = [] ∧ t.link.report = [] ∧ t.link.assembler = .waiting
    ∧ t.link.idleCount = 0
    ∧ (∀ bit : Nat, pbTxPin t bit = true)
    ∧ t.counters = Counters.zero
    ∧ t.pending = s.pending

/-- RESET_RELEASE samples the straps and the inputs (R158, R41): the first samples are the stable levels, no candidate
and no edge comes of them, and with straps 1 to 14 the fresh HELLO is queued as the first frame (R156, R160); straps 0
or 15 are a strap fault, no HELLO is queued, and no request to queue a frame has an effect (R156). -/
def Obligations.ResetRelease : Prop :=
  ∀ (s : State) (straps : BitVec 4) (sns : Vector Level 4) (cvr : CoverLevel),
    s.inReset = true → s.setup.profile = none → s.link.report = [] →
    ∃ t, exec (.resetRelease straps sns cvr) s = .next t
      ∧ t.inReset = false ∧ t.setup.straps = straps
      ∧ (∀ k : Fin 4,
          t.front.sensors[k] = { pin := sns[k], mode := .followed, stable := sns[k], candidate := none })
      ∧ t.front.cover = { pin := cvr, level := cvr, candidate := none }
      ∧ (1 ≤ straps.toNat ∧ straps.toNat ≤ 14 →
          t.stationNumber = some straps.toNat
            ∧ t.link.report =
                [fresh 15
                  (.hello
                    { fresh := true, configured := false, rank := 0, roles := noRoles, sensorCount := 0,
                      exitB := false })])
      ∧ (straps = 0 ∨ straps = 15 →
          t.stationNumber = none ∧ t.link.report = []
            ∧ ∀ (c : QueueClass) (dest : Nat) (body : Body) (part : CensusPart),
                t.request c dest body = t ∧ t.requestPath dest body = (t, []) ∧ t.requestCensusPart part = t)
      ∧ t = { s with inReset := false, setup := t.setup, front := t.front, link := t.link }
      ∧ t.setup = { s.setup with straps := straps } ∧ t.link = { s.link with report := t.link.report }

/-- The state right after reset meets every invariant of Safety; its input levels are the model's choice (log 8). -/
def Obligations.InvariantsAtReset : Prop :=
  OutputsInv State.reset ∧ TimersInv State.reset ∧ CoverInv State.reset ∧ ProfileInv State.reset
    ∧ ProfileRanges State.reset ∧ ClocksInv State.reset ∧ JamInv State.reset
    ∧ LinkInv State.reset ∧ TableInv State.reset ∧ SpeedInv State.reset ∧ EmptyInv State.reset ∧ RunOutInv State.reset
    ∧ DeadlinesInv State.reset ∧ SensorsInv State.reset

/-! ## Invariants that every step keeps -/

/-- HALT_N and DRV follow the state and the cover (R96), a station in reset is UNCONFIGURED (R97) and does not drive the
path bus (R156), and each timer runs in its own state alone (R100). The GATE pin is high in every state whose gate
position is B, and low in every one whose position is A (R58). -/
def Obligations.ControllerKept : Prop :=
  (∀ s t : State, step s = .next t → (OutputsInv s → OutputsInv t) ∧ (TimersInv s → TimersInv t))
    ∧ ∀ s : State, gatePin s = true ↔ s.tracker.gate = .b

/-- The cover is CLOSED in STANDBY, RUN, DECIDE, RUNOUT, HELD and VERIFY, and OPEN in CLEARING (R117). -/
def Obligations.CoverKept : Prop :=
  ∀ s t : State, CoverInv s → step s = .next t → CoverInv t

/-- Profile and current speed are absent in UNCONFIGURED alone, and speeds, profile numbers, sensor positions, neighbour
numbers and what the roles ask of the exits and bridges stay as SETUP may leave them (R35, R101, R164, R165). -/
def Obligations.ProfileKept : Prop :=
  ∀ s t : State, step s = .next t → (ProfileInv s → ProfileInv t) ∧ (ProfileRanges s → ProfileRanges t)

/-- The jam items are empty while the capture is, and the later count never exceeds 255 (R86). -/
def Obligations.JamItemsKept : Prop :=
  ∀ s t : State, JamInv s → step s = .next t → JamInv t

/-- The queues keep their depths, retry numbers stay at 3 or below, PB_TXEN is driven in an attempt alone, the frame of
an attempt stays at the head of its queue (R149, R151), and characters are held in TAKING alone, of a frame that is not
at its end (R145, R147). -/
def Obligations.LinkKept : Prop :=
  ∀ s t : State, LinkInv s → step s = .next t → LinkInv t

/-- The Sheet Table keeps its capacity and its distinct ids (R8), its order (R9, R10), and every record the fields of
its phase (R4 to R7). -/
def Obligations.TableKept : Prop :=
  ∀ s t : State, TableInv s → step s = .next t → TableInv t

/-- The pending speed is absent with an empty table (R35); the table is empty in UNCONFIGURED, LINKING and STANDBY
(R103); the run-out list keeps its capacity and its distinct ids (R18); the clocks stand within a tick and a character
time (R21, R144). -/
def Obligations.StoresKept : Prop :=
  ∀ s t : State, step s = .next t →
    (SpeedInv s → SpeedInv t) ∧ (EmptyInv s → EmptyInv t) ∧ (RunOutInv s → RunOutInv t)
      ∧ (ClocksInv s → ClocksInv t)

/-- Deadlines are armed in RUN, DECIDE and RUNOUT alone, and entry lead deadlines not in RUNOUT (R110, R111, R121,
R123). -/
def Obligations.DeadlinesKept : Prop :=
  ∀ s t : State, DeadlinesInv s → step s = .next t → DeadlinesInv t

/-- The sensors are treated as the profile gives, and only a FILTERED one has a candidate (R38, R39). -/
def Obligations.SensorsKept : Prop :=
  ∀ s t : State, SensorsInv s → step s = .next t → SensorsInv t

/-! ## What the commands leave alone, over all commands -/

/-- No command touches the queue of waiting commands or the count of free orders drawn, HARDWARE_RESET included: both
are the model's own items, and that is the model's choice (logs 1 and 2). None but HARDWARE_RESET touches the time base
(R21) or takes RST_N low; the sampled straps change at reset and its release alone (R158). -/
def Obligations.ItemsNoCommandChanges : Prop :=
  ∀ (c : Instr) (s t : State), exec c s = .next t →
    t.pending = s.pending ∧ t.eventsDrawn = s.eventsDrawn
      ∧ (c ≠ .hardwareReset →
          t.window.timeBase = s.window.timeBase ∧ t.window.crystal = s.window.crystal
            ∧ (t.inReset = true → s.inReset = true))
      ∧ (t.setup.straps = s.setup.straps ∨ c = .hardwareReset ∨ ∃ straps sns cvr, c = .resetRelease straps sns cvr)

/-- The formed census stays as it was formed until RESUME, RESTART or reset discards it (R131); the profile stays until
RESTART or reset (R166); the roster changes by HELLO and reset alone (R159, R162); the epoch changes by SETUP, RESUME,
RESTART and reset alone (R97). A frame acts by its own command or by the character that ends it (log 4). -/
def Obligations.HeldItems : Prop :=
  ∀ (c : Instr) (s t : State), ProfileInv s → exec c s = .next t →
    (∀ x, s.census = some x →
        t.census = some x
          ∨ t.census = none
            ∧ (c = .hardwareReset ∨ (∃ src, Brings s c (.restart src)) ∨ ∃ src e, Brings s c (.resume src e)))
      ∧ (∀ p, s.setup.profile = some p →
          t.setup.profile = some p ∨ t.setup.profile = none ∧ (c = .hardwareReset ∨ ∃ src, Brings s c (.restart src)))
      ∧ (t.setup.roster = s.setup.roster ∨ c = .hardwareReset ∨ ∃ src f, Brings s c (.hello src f))
      ∧ (t.path.epoch = s.path.epoch
          ∨ t.path.epoch = 0 ∧ (c = .hardwareReset ∨ ∃ src, Brings s c (.restart src))
          ∨ (∃ src f, Brings s c (.setup src f) ∧ t.path.epoch = f.epoch)
          ∨ ∃ src e, Brings s c (.resume src e) ∧ t.path.epoch = e)

/-- RUN is entered by an accepted RESUME alone, from STANDBY with the line high and a new epoch (R99, R105), and LOCKOUT
is left by RESTART and reset alone (R111). A frame acts by its own command or by the character that ends it (log 4). -/
def Obligations.StateDoors : Prop :=
  ∀ (c : Instr) (s t : State), exec c s = .next t →
    (s.path.state ≠ .run → t.path.state = .run →
        s.path.state = .standby ∧ s.path.lineHigh = true ∧ ∃ e, Brings s c (.resume 0 e) ∧ e ≠ s.path.epoch)
      ∧ (s.path.state = .lockout →
          t.path.state = .lockout ∨ t.path.state = .unconfigured ∧ (c = .hardwareReset ∨ Brings s c (.restart 0)))

/-- Every counter decreases only at hardware reset (R155). -/
def Obligations.CountersNeverFall : Prop :=
  ∀ (c : Instr) (s t : State), c ≠ .hardwareReset → exec c s = .next t → CountersGrow s.counters t.counters

/-- The last-delivered tag changes by an edge that delivers, which raises the delivered counter to its ceiling at most,
and by RESTART and reset, which make it absent (R15, R19); no other command changes it. A RESTART frame acts by its own
command or by the character that ends it (log 4). -/
def Obligations.LastDeliveredHeld : Prop :=
  ∀ (c : Instr) (s t : State), exec c s = .next t →
    t.tracker.lastDelivered = s.tracker.lastDelivered
      ∨ t.tracker.lastDelivered = none ∧ (c = .hardwareReset ∨ ∃ src, Brings s c (.restart src))
      ∨ (∃ r ∈ s.tracker.table, t.tracker.lastDelivered = some r.tag)
          ∧ t.counters.delivered.toNat = min 65535 (s.counters.delivered.toNat + 1)
          ∧ ((∃ k, c = .filterConfirm k) ∨ ∃ k l, c = .rawEdge k l)

/-! ## Frames as bytes -/

/-- Reading a frame gives back the command it carries, for every frame a station can receive and every value of every
field (R145, chapter 11). Its CRC is a register from 0 (R146), which takes each byte most significant bit first,
is shifted one place for each bit, and is combined with 7 where its most significant bit differed from the data bit. It
is 2D after 15, and CA after 15 and 3. -/
def Obligations.DecodeEncode : Prop :=
  (∀ (i : Instr) (dest : Byte) (bytes : List Byte),
      i.WellFormed = true → encodeFrame dest i = some bytes → decodeFrame bytes = .ok i)
    ∧ (let bit (r : Byte) (d : Bool) : Byte := if r.getLsbD 7 = d then r <<< 1 else (r <<< 1) ^^^ 7
      crc8 [] = 0
        ∧ ∀ (bytes : List Byte) (b : Byte),
            crc8 (bytes ++ [b])
              = bit (bit (bit (bit (bit (bit (bit (bit (crc8 bytes) (b.getLsbD 7)) (b.getLsbD 6)) (b.getLsbD 5))
                  (b.getLsbD 4)) (b.getLsbD 3)) (b.getLsbD 2)) (b.getLsbD 1)) (b.getLsbD 0))
    ∧ crc8 [15] = 0x2D ∧ crc8 [15, 3] = 0xCA

/-- On receipt the bits marked unused are ignored (R170): a LAUNCH, HANDOFF or TAKEN with any bits 15 to 12 beside its
sheet id, a HELLO with any unused bits in its first and third bytes, a JAM with any bits 14 to 12, a QUERY with any bits
7 to 1, and a SETUP with any bits 7 to 5 in byte 3, 6 to 3 in byte 14 and 1 to 0 in byte 22 are taken as if those were
0. -/
def Obligations.UnusedBitsIgnored : Prop :=
  ∀ (dest source : Byte) (extra mid4 : BitVec 4) (tag : WireTag) (age : Half) (sheet : SheetId) (h : HelloFrame)
      (j : JamFrame) (f : SetupFrame) (low5 : BitVec 5) (high3 mid3 : BitVec 3) (high7 : BitVec 7) (low2 : BitVec 2),
    decodeFrame (frameBytes dest source .launch (tagBytes extra tag)) = .ok (.launch source tag)
      ∧ decodeFrame (frameBytes dest source .handoff (tagBytes extra tag ++ halfBytes age))
          = .ok (.handoff source tag age)
      ∧ decodeFrame (frameBytes dest source .taken (halfBytes (extra ++ sheet))) = .ok (.taken source sheet)
      ∧ decodeFrame
            (frameBytes dest source .hello
              [BitVec.ofBool h.fresh ++ BitVec.ofBool h.configured ++ BitVec.ofBool h.exitB ++ low5, h.rank,
                rolesByte h.roles ||| (high3 ++ (0 : BitVec 5)), h.sensorCount])
          = .ok (.hello source h)
      ∧ decodeFrame
            (frameBytes dest source .jam
              ([j.kind, j.sensor] ++ halfBytes (BitVec.ofBool j.noSheet ++ mid3 ++ j.sheetId) ++ [j.rank, j.epoch]))
          = .ok (.jam source j)
      ∧ decodeFrame (frameBytes dest source .query [high7 ++ (0 : BitVec 1)]) = .ok (.queryStatus source)
      ∧ decodeFrame (frameBytes dest source .query [high7 ++ (1 : BitVec 1)]) = .ok (.queryCensus source)
      ∧ decodeFrame
            (frameBytes dest source .setup
              ((((setupPayload f).modify 2 fun b => b ||| (high3 ++ (0 : BitVec 5))).modify 13 fun b =>
                  b ||| ((0 : BitVec 1) ++ mid4 ++ (0 : BitVec 3))).modify 21 fun b =>
                b ||| ((0 : BitVec 6) ++ low2)))
          = .ok (.setup source f)

/-- The bytes of what the station sends. Every frame has its envelope (R145) with the type code of 11.1 and a payload of
a length its type allows, a CENSUS part of e entries, at most 8, the length 12 + 7e + ceil(e / 2) (R171). A NOTICE holds
the bytes of its kind. A CENSUS part holds the header, with the last-delivered tag or zeros beside the LOCKOUT flag and
the cause code, the packed tags of its entries with fate and jam flag, and their pair codes, two to a byte. A STATUS
holds the state, the capture summary, the later set and count, the speeds, the roster marks, the levels and the eleven
counters (chapter 11.5, R170). That the stable level of SNS k stands in bit k of STATUS byte 20 is the model's inference
(log 24). -/
def Obligations.SentFrames : Prop :=
  (∀ (now : Tick) (own : Nat) (e : Entry),
      (∀ c, e.body = .census c → c.entries.length ≤ 8) →
        let payload := bodyPayload now e.body
        let body :=
          [BitVec.ofNat 8 e.dest, BitVec.ofNat 8 own, typeCode (bodyType e.body), BitVec.ofNat 8 payload.length]
            ++ payload
        attemptBytes now own e = body ++ [crc8 body]
          ∧ payload.length ∈ payloadLengths (bodyType e.body)
          ∧ ∀ c, e.body = .census c →
              payload.length = 12 + 7 * c.entries.length + (c.entries.length + 1) / 2)
    ∧ (∀ (now : Tick) (n : Notice) (p : CensusPart) (c : StatusContents),
        bodyPayload now (.notice n) = noticePayload n ∧ bodyPayload now (.census p) = censusPayload p
          ∧ bodyPayload now (.status c) = statusPayload c)
    ∧ ([FrameType.setup, .hello, .launch, .handoff, .taken, .speed, .resume, .restart, .query, .jam, .census, .notice,
          .status].map fun t => (typeCode t, payloadLengths t))
        = [(1, [39]), (2, [4]), (3, [7]), (4, [9]), (5, [2]), (6, [2]), (7, [1]), (8, [0]), (9, [1]), (10, [6]),
          (11, [12, 20, 27, 35, 42, 50, 57, 65, 72]), (12, [4, 6, 7]), (13, [42])]
    ∧ (∀ (id : SheetId) (k : Nat) (dev : Int) (length removed : Nat) (epoch : Byte) (st : PathState)
          (covered : BitVec 4) (reason : RefuseReason),
        noticePayload (.slip id k dev) = [1] ++ twoBytes id.toNat ++ [BitVec.ofNat 8 k] ++ twoSigned dev
          ∧ noticePayload (.traceLead id k dev)
              = [2] ++ twoBytes id.toNat ++ [BitVec.ofNat 8 k, 0] ++ twoSigned dev
          ∧ noticePayload (.traceTrail id k length)
              = [2] ++ twoBytes id.toNat ++ [BitVec.ofNat 8 k, 1] ++ twoBytes length
          ∧ noticePayload (.refused id reason)
              = [3] ++ twoBytes id.toNat ++ [BitVec.ofNat 8 (reasonNumber reason)]
          ∧ noticePayload (.clear epoch removed st)
              = [4, epoch, BitVec.ofNat 8 removed, BitVec.ofNat 8 (stateNumber st)]
          ∧ noticePayload (.residue epoch st covered)
              = [5, epoch, BitVec.ofNat 8 (stateNumber st), BitVec.ofNat 8 covered.toNat])
    ∧ (∀ (p : CensusPart) (cause : Cause), p.header.cause = some cause → 1 ≤ p.number → p.number ≤ 2 → 1 ≤ p.parts →
        p.parts ≤ 2 → (∀ e ∈ p.entries, e.tag.length < 8192) →
        (∀ t, p.header.lastDelivered = some t → t.length < 8192) →
        let marks := (if p.header.lockout then 4 else 0) + causeNumber cause
        let pair (j : Nat) : Nat := (p.entries[j]?.map pairNumber).getD 0
        censusPayload p
          = [p.header.epoch, BitVec.ofNat 8 (16 * p.header.rank + kindNumber p.header.kind)]
            ++ twoBytes (4096 * p.header.covered.toNat + p.header.laterSet.toNat)
            ++ [BitVec.ofNat 8 (8 * p.total + (if p.number = 2 then 4 else 0) + if p.parts = 2 then 2 else 0)]
            ++ (match p.header.lastDelivered with
              | some t => packedTag (8 + marks) t
              | none => twoBytes (4096 * marks) ++ [0, 0, 0, 0, 0])
            ++ (p.entries.flatMap fun e => packedTag (4 * fateNumber e.fate + if e.jamFlag then 2 else 0) e.tag)
            ++ (List.range ((p.entries.length + 1) / 2)).map fun j =>
                BitVec.ofNat 8 (16 * pair (2 * j) + pair (2 * j + 1)))
    ∧ ∀ (c : StatusContents) (roster : BitVec 16) (levels : BitVec 8),
        (∀ k < 16, roster.getLsbD k = (decide (1 ≤ k ∧ k ≤ 14) && c.configured.toList.getD (k - 1) false)) →
        (∀ k : Fin 4, levels.getLsbD k.val = decide (c.levels[k] = .covered)) →
        levels.getLsbD 4 = decide (c.cover = .closed) → levels.getLsbD 5 = c.lineHigh →
        levels.getLsbD 6 = false → levels.getLsbD 7 = false →
        statusPayload c
          = [BitVec.ofNat 8 (stateNumber c.state), c.epoch, BitVec.ofNat 8 c.recordCount]
            ++ captureSummary c.capture ++ twoBytes c.laterSet.toNat
            ++ [BitVec.ofNat 8 c.laterCount, BitVec.ofNat 8 c.highestRank]
            ++ twoBytes (c.currentSpeed.getD 0) ++ twoBytes (c.pendingSpeed.getD 0) ++ twoBytes roster.toNat
            ++ [levels]
            ++ ([c.counters.delivered, c.counters.passed, c.counters.slip, c.counters.chatter,
                  c.counters.receiveError, c.counters.transmitRetry, c.counters.transmitDiscard,
                  c.counters.reportDrop, c.counters.refused, c.counters.residue,
                  c.counters.clamp].flatMap fun x => twoBytes x.toNat)

/-- A HANDOFF, TAKEN, HELLO or JAM that a station sends is read by a peer as what it was queued for: the tag and the age
stamped when the attempt began (R31, R65), the sheet id (R71), the HELLO's fields (R160), the jam report (R88). -/
def Obligations.PeersReadWhatIsSent : Prop :=
  ∀ (now : Tick) (own dest retry : Nat) (started : Bool), own < 256 →
    (∀ (tag : SheetTag) (c : Tick), tag.length ≤ 6000 →
        decodeFrame (attemptBytes now own { dest := dest, body := .handoff tag c, retry := retry, started := started })
            = .ok (.handoff (BitVec.ofNat 8 own) (wireTag tag) (BitVec.ofNat 16 (min 30000 (now - c).toNat)))
          ∧ storedTag (wireTag tag) = { tag with length := max 1000 tag.length })
      ∧ (∀ id : SheetId,
          decodeFrame (attemptBytes now own { dest := dest, body := .taken id, retry := retry, started := started })
            = .ok (.taken (BitVec.ofNat 8 own) id))
      ∧ (∀ h : HelloContents,
          decodeFrame (attemptBytes now own { dest := dest, body := .hello h, retry := retry, started := started })
            = .ok (.hello (BitVec.ofNat 8 own)
                { fresh := h.fresh, configured := h.configured, exitB := h.exitB, rank := BitVec.ofNat 8 h.rank,
                  roles := h.roles, sensorCount := BitVec.ofNat 8 h.sensorCount }))
      ∧ ∀ c : JamContents, 1 ≤ c.rank → c.rank ≤ 14 → (∀ k, c.report.sensor = some k → k ≤ 3) →
          ∃ f, decodeFrame (attemptBytes now own { dest := dest, body := .jam c, retry := retry, started := started })
              = .ok (.jam (BitVec.ofNat 8 own) f)
            ∧ jamRead f = some c

/-! ## Time and order -/

/-- transit(d) is the quotient 1000 x d / v rounded up to a whole number of ticks (R23). -/
def Obligations.TransitRoundsUp : Prop :=
  ∀ d v : Nat, 50 ≤ v → v ≤ 1600 →
    1000 * d ≤ transit d v * v ∧ (∀ T, 1000 * d ≤ T * v → transit d v ≤ T) ∧ transit 0 v = 0

/-- A window's offsets stand in order within 30000 ticks; a window that does not saturate lies a tolerance to each side
of its transit, and one that does reaches from its anchor to 30000 (R25). -/
def Obligations.WindowBounds : Prop :=
  ∀ T t : Nat,
    let o := windowOffsets T t
    o.early ≤ o.expected ∧ o.expected ≤ o.due ∧ o.due ≤ 30000
      ∧ (T + t ≤ 30000 → o.expected = T ∧ o.due = T + t ∧ o.early = T - t ∧ o.saturated = false)
      ∧ (30000 < T + t → o.expected = min T 30000 ∧ o.due = 30000 ∧ o.early = 0 ∧ o.saturated = true)

/-- A new INBOUND record stands immediately before the first INBOUND record whose expected entry tick is after its own,
or at the end, and the records held keep their order (R9). -/
def Obligations.InsertedInOrder : Prop :=
  ∀ (r : Record) (table : List Record), ∃ front back,
    table = front ++ back ∧ insertInbound r table = front ++ r :: back
      ∧ (∀ x ∈ front, ¬(x.phase = .inbound ∧ before r.expectedEntry x.expectedEntry = true))
      ∧ ∀ x, back.head? = some x → x.phase = .inbound ∧ before r.expectedEntry x.expectedEntry = true

/-! ## Sensors (3.1) -/

/-- A sample of a followed input is its stable level and gives no edge (R38). A sample of a FILTERED sensor forms a
candidate at the present tick, leaves it, or discards it with a chatter count (R39). A sample of CVR does the same
against the debounced level, and counts nothing (R42). That a RAW_EDGE command on a followed input is its sample is the
model's choice (log 18). -/
def Obligations.SamplesTaken : Prop :=
  ∀ (s : State) (k : Fin 4) (level : Level), s.inReset = false →
    let x := s.front.sensors[k]
    let go := exec (.sensorInputChange k level) s
    (x.mode = .followed →
        go = .next (withSensor s k { x with pin := level, stable := level })
          ∧ exec (.rawEdge k level) s = .next (withSensor s k { x with pin := level, stable := level }))
      ∧ (x.mode = .filtered → x.candidate = none → level = x.stable →
          go = .next (withSensor s k { x with pin := level }))
      ∧ (x.mode = .filtered → x.candidate = none → level ≠ x.stable →
          go = .next
            (withSensor s k { x with pin := level, candidate := some { level := level, start := s.window.timeBase } }))
      ∧ (x.mode = .filtered → ∀ c, x.candidate = some c → level = x.stable →
          go = .next
            { withSensor s k { x with pin := level, candidate := none } with
              counters := { s.counters with chatter := raised s.counters.chatter 1 } })
      ∧ (x.mode = .filtered → ∀ c, x.candidate = some c → level ≠ x.stable →
          go = .next (withSensor s k { x with pin := level }))
      ∧ ∀ cvr : CoverLevel,
          let v := s.front.cover
          let withCover (y : Cover) := { s with front := { s.front with cover := y } }
          (cvr = v.level →
              exec (.coverInputChange cvr) s = .next (withCover { v with pin := cvr, candidate := none }))
            ∧ (cvr ≠ v.level → v.candidate = none →
                exec (.coverInputChange cvr) s
                  = .next
                    (withCover { v with pin := cvr, candidate := some { level := cvr, start := s.window.timeBase } }))
            ∧ (cvr ≠ v.level → v.candidate ≠ none →
                exec (.coverInputChange cvr) s = .next (withCover { v with pin := cvr }))

/-- A candidate that has held for FILTER ticks is confirmed: the stable level becomes the candidate level, the candidate
is discarded, and the edge is handed on, captured at the candidate's start (R39); a RAW sensor's sample that differs
from the stable level is handed on at once, captured at this tick (R40). What is not confirmed hands nothing on, which
for a command without its condition is the model's choice (log 3). -/
def Obligations.EdgesHandedOn : Prop :=
  ∀ (s : State) (k : Fin 4), s.inReset = false →
    let x := s.front.sensors[k]
    (∀ c, x.mode = .filtered → x.candidate = some c →
        reached s.window.timeBase (c.start + BitVec.ofNat 16 (s.prof.filter - 1)) = true →
        exec (.filterConfirm k) s
          = .next ((withSensor s k { x with stable := c.level, candidate := none }).takeEdge k c.level c.start))
      ∧ (x.candidate = none → exec (.filterConfirm k) s = .next s)
      ∧ (∀ c, x.candidate = some c →
          reached s.window.timeBase (c.start + BitVec.ofNat 16 (s.prof.filter - 1)) = false →
          exec (.filterConfirm k) s = .next s)
      ∧ ∀ level, x.mode = .raw →
          (level ≠ x.stable →
              exec (.rawEdge k level) s
                = .next
                  ((withSensor s k { x with pin := level, stable := level }).takeEdge k level s.window.timeBase))
            ∧ (level = x.stable → exec (.rawEdge k level) s = .next (withSensor s k { x with pin := level }))

/-- Edges outside RUN, DECIDE, RUNOUT and STOPPING (R43): in UNCONFIGURED, HELD, CLEARING and LOCKOUT they act on
nothing; in STANDBY and VERIFY a covering is residue, counted and noticed, and leads to HELD (R112, R140); in LINKING
the conditions for STANDBY are judged (R102, R103). The set the notice names is that of the covered sensors below n. -/
def Obligations.EdgesAtRest : Prop :=
  ∀ (s : State) (k : Nat) (level : Level) (c : Tick),
    (s.path.state = .unconfigured ∨ s.path.state = .held ∨ s.path.state = .clearing ∨ s.path.state = .lockout →
        s.takeEdge k level c = s)
      ∧ (s.path.state = .standby ∨ s.path.state = .verify → s.takeEdge k .clear c = s)
      ∧ (s.path.state = .standby ∨ s.path.state = .verify →
          s.front.cover.level = .closed → s.sensorsClear = false →
          let u := { s with counters := { s.counters with residue := raised s.counters.residue 1 } }
          s.takeEdge k .covered c
            = { asked u 0 (.notice (.residue s.path.epoch s.path.state s.coveredSet)) with path := pathIn s .held })
      ∧ (s.path.state = .linking →
          ((∀ m ∈ s.prof.neighbours, (s.rosterEntry m).configured = true) →
              s.front.cover.level = .closed → (∀ j < s.prof.n, s.stableLevel j = .clear) →
              s.takeEdge k level c
                = { s with path := pathIn s .standby, tracker := { s.tracker with runOut := [] } })
            ∧ ((∃ m ∈ s.prof.neighbours, (s.rosterEntry m).configured = false) ∨ s.front.cover.level = .opened
                  ∨ (∃ j < s.prof.n, s.stableLevel j = .covered) →
                s.takeEdge k level c = s))
      ∧ ∀ j < 4, (s.coveredSet.getLsbD j = true ↔ j < s.prof.n ∧ s.stableLevel j = .covered)

/-! ## Edges and sheets (chapters 1, 3, 4) -/

/-- A LEAD at sensor 0 matched to the first INBOUND record that passes the early test, where n exceeds 1 (R44, R45,
R56): the record becomes RESIDENT at the end of the resident part with its first capture, its trail window for sensor 0
and its lead window for sensor 1, slip and saturations are counted, and the notices of the report level are queued (R60,
R61). The TAKEN is queued to the upstream its source names (R71), a LAUNCH having none; with the PATH queue full it is
not, and that is the own jam LINK (R79). -/
def Obligations.EntryLeadMatched : Prop :=
  ∀ (s : State) (c : Tick) (r : Record) (pre post : List Record) (w : Window),
    matchingState s.path.state = true → 1 < s.prof.n → s.tracker.table = pre ++ r :: post →
    r.phase = .inbound → r.leadIndex = 0 → r.trailIndex = 0 → r.leadCaptures = [] → r.leadWindow = some w →
    (∀ x ∈ pre, x.phase = .inbound →
      s.path.state ≠ .stopping ∧ ∃ v, x.leadWindow = some v ∧ before c v.early = true) →
    inTime s w c →
    let caught :=
      { r with
        phase := .resident
        leadIndex := 1
        leadCaptures := [c]
        entryInRunout := decide (s.path.state = .runout)
        trailWindow := some (trailWindowOf s r.tag.length c) }
    let u :=
      { withTable s
          (insertResident { caught with leadWindow := some (innerWindow s caught 1 c) } (pre ++ post)) with
        counters := matchCounts s w c (saturations [trailOffsetsOf s r.tag.length, innerOffsets s caught 1]) }
    let sent := pathAsked (noticed u (leadNotices s 0 r.tag.sheetId w c)) (takenFrames s r)
    s.takeEdge 0 .covered c = sent.1.raiseJams sent.2

/-- A LEAD at sensor 0 matched to the first INBOUND record that passes the early test, where n is 1 and sensor 0 is the
exit sensor too (R45, R48, R49): the record takes its trail window and then the exit step, whose HANDOFF is requested
before the TAKEN; with the gate set for the other exit it is a GATE jam, and the record stays RESIDENT. Each of the two
frames that finds the PATH queue full is an own jam LINK (R79), recorded after the GATE jam; that both jams of one event
are recorded before the state changes is the model's inference (log 17). -/
def Obligations.OneSensorEntry : Prop :=
  ∀ (s : State) (c : Tick) (r : Record) (pre post : List Record) (w : Window),
    matchingState s.path.state = true → s.prof.n = 1 → s.tracker.table = pre ++ r :: post →
    r.phase = .inbound → r.leadIndex = 0 → r.trailIndex = 0 → r.leadCaptures = [] → r.leadWindow = some w →
    r.outputBound = none → r.taken = none → r.takeDue = none →
    (∀ x ∈ pre, x.phase = .inbound →
      s.path.state ≠ .stopping ∧ ∃ v, x.leadWindow = some v ∧ before c v.early = true) →
    inTime s w c →
    let caught :=
      { r with
        phase := .resident
        leadIndex := 1
        leadCaptures := [c]
        leadWindow := none
        entryInRunout := decide (s.path.state = .runout)
        trailWindow := some (trailWindowOf s r.tag.length c) }
    let trailClamps := saturations [trailOffsetsOf s r.tag.length]
    let towards := ¬(r.exit = .a ∧ s.prof.roles.delivery = true)
    let left (moved : Record) (clamps : Nat) (frames : List Entry) :=
      pathAsked
        (noticed
          { withTable s (insertResident moved (pre ++ post)) with counters := matchCounts s w c clamps }
          (leadNotices s 0 r.tag.sheetId w c))
        frames
    (r.exit = s.tracker.gate → r.exit = .a → s.prof.roles.delivery = true →
        let t := left { caught with phase := .outbound, outputBound := some true } trailClamps (takenFrames s r)
        s.takeEdge 0 .covered c = t.1.raiseJams t.2)
      ∧ (r.exit = s.tracker.gate → towards →
          let t :=
            left (sentOut s caught c) (trailClamps + if 30000 < takeOffsetOf s r then 1 else 0)
              (fresh (s.prof.exitStation r.exit) (.handoff (handoffTag s r) c) :: takenFrames s r)
          s.takeEdge 0 .covered c = t.1.raiseJams t.2)
      ∧ (r.exit ≠ s.tracker.gate →
          let t := left caught trailClamps (takenFrames s r)
          s.takeEdge 0 .covered c
            = t.1.raiseJams ({ kind := .gate, sensor := some 0, sheetId := some r.tag.sheetId } :: t.2))

/-- A LEAD at an inner sensor matched to the oldest resident record that awaits it (R46, R47, R56): the capture joins
the record, the lead window for the next sensor is computed, and so is the trail window when the trail index has just
been left behind; the record keeps its place, and the notices of the report level are queued (R60, R61). -/
def Obligations.InnerLeadMatched : Prop :=
  ∀ (s : State) (k : Nat) (c : Tick) (r : Record) (pre post : List Record) (w : Window),
    matchingState s.path.state = true → 1 ≤ k → k + 1 < s.prof.n → s.tracker.table = pre ++ r :: post →
    (∀ x ∈ pre, ¬(x.phase ≠ .inbound ∧ x.leadIndex = k)) →
    r.phase ≠ .inbound → r.leadIndex = k → r.leadCaptures.length = k → r.leadWindow = some w → inTime s w c →
    let caught :=
      { r with
        leadIndex := k + 1
        leadCaptures := r.leadCaptures ++ [c]
        leadWindow := some (innerWindow s r (k + 1) c)
        trailWindow := if r.trailIndex = k then some (trailWindowOf s r.tag.length c) else r.trailWindow }
    s.takeEdge k .covered c
      = noticed
          { withTable s (pre ++ caught :: post) with
            counters :=
              matchCounts s w c
                (saturations
                  ((if r.trailIndex = k then [trailOffsetsOf s r.tag.length] else []) ++ [innerOffsets s r (k + 1)])) }
          (leadNotices s k r.tag.sheetId w c)

/-- A matched LEAD at the exit sensor, where n exceeds 1 (R47 to R49): with the gate set for the other exit it is a GATE
jam and the record stays RESIDENT with lead index n; an exit A record of a DELIVERY station becomes OUTBOUND and
output-bound; any other becomes OUTBOUND with taken no, its take due armed outside STOPPING (R29), and its HANDOFF is
queued to the station of its exit with the exit capture, FRONT sent as BACK toward exit A by a FLIP station (R65, R66),
or is a LINK jam with the PATH queue full (R79). The notices of the report level are queued in each case (R60, R61). -/
def Obligations.ExitLeadMatched : Prop :=
  ∀ (s : State) (k : Nat) (c : Tick) (r : Record) (pre post : List Record) (w : Window),
    matchingState s.path.state = true → 1 ≤ k → k + 1 = s.prof.n → s.tracker.table = pre ++ r :: post →
    (∀ x ∈ pre, ¬(x.phase ≠ .inbound ∧ x.leadIndex = k)) →
    r.phase = .resident → r.leadIndex = k → r.trailIndex ≤ k → r.leadCaptures.length = k → r.leadWindow = some w →
    r.outputBound = none → r.taken = none → r.takeDue = none → inTime s w c →
    let caught :=
      { r with
        leadIndex := k + 1
        leadCaptures := r.leadCaptures ++ [c]
        leadWindow := none
        trailWindow := if r.trailIndex = k then some (trailWindowOf s r.tag.length c) else r.trailWindow }
    let trailClamps := saturations (if r.trailIndex = k then [trailOffsetsOf s r.tag.length] else [])
    let towards := ¬(r.exit = .a ∧ s.prof.roles.delivery = true)
    let left (moved : Record) (clamps : Nat) :=
      noticed { withTable s (pre ++ moved :: post) with counters := matchCounts s w c clamps }
        (leadNotices s k r.tag.sheetId w c)
    (r.exit ≠ s.tracker.gate →
        s.takeEdge k .covered c
          = (left caught trailClamps).raiseJams [{ kind := .gate, sensor := some k, sheetId := some r.tag.sheetId }])
      ∧ (r.exit = s.tracker.gate → r.exit = .a → s.prof.roles.delivery = true →
          s.takeEdge k .covered c = left { caught with phase := .outbound, outputBound := some true } trailClamps)
      ∧ (r.exit = s.tracker.gate → towards →
          let t :=
            pathAsked (left (sentOut s caught c) (trailClamps + if 30000 < takeOffsetOf s r then 1 else 0))
              [fresh (s.prof.exitStation r.exit) (.handoff (handoffTag s r) c)]
          s.takeEdge k .covered c = t.1.raiseJams t.2)

/-- A matched edge and its notices, at every report level, with room in REPORT or without (R32 to R34, R60, R61). A
matched lead capture counts a slip and queues SLIP at level SLIP or TRACE, and then TRACE at level TRACE; a matched
trail capture queues TRACE with the length measured at the current speed (of the event's beginning: log 12), cut to
65535. What finds REPORT full is dropped and counted (R149). (In RUNOUT with escalation LOCKOUT a LEAD that is also a
jam queues the census after its notices: the statements of the single edges say what that event leaves.) A capture is a
slip when the tick halfway from the expected to the due tick is before it and the due tick is not; the deviation carries
its sign and is clamped to 30000 either way. -/
def Obligations.MatchNotices : Prop :=
  ∀ (s : State) (k : Nat) (c : Tick) (r : Record) (pre post : List Record) (w : Window),
    matchingState s.path.state = true → s.tracker.table = pre ++ r :: post →
    let room := if s.strapFault = true then 0 else 6 - s.link.report.length
    let lead := leadNotices s k r.tag.sheetId w c
    let joins (t : State) (notices : List Notice) :=
      t.link.report = s.link.report ++ (notices.take room).map fun x => fresh 0 (.notice x)
    (¬(s.path.state = .runout ∧ s.prof.escalation = .lockout) →
        (k = 0 →
          r.phase = .inbound
            ∧ ∀ x ∈ pre, x.phase = .inbound →
                s.path.state ≠ .stopping ∧ ∃ v, x.leadWindow = some v ∧ before c v.early = true) →
        (1 ≤ k →
          (r.phase ≠ .inbound ∧ r.leadIndex = k) ∧ ∀ x ∈ pre, ¬(x.phase ≠ .inbound ∧ x.leadIndex = k)) →
        r.leadWindow = some w → inTime s w c →
        let t := s.takeEdge k .covered c
        joins t lead
          ∧ t.counters.slip = raised s.counters.slip (if isSlip w c then 1 else 0)
          ∧ (s.link.urgent.length < 2 → s.strapFault = false →
              t.counters.reportDrop = raised s.counters.reportDrop (lead.length - room)))
      ∧ (r.trailIndex = k → k < r.leadIndex → (∀ x ∈ pre, ¬(x.trailIndex = k ∧ k < x.leadIndex)) →
          r.trailWindow = some w → inTime s w c →
          joins (s.takeEdge k .clear c) (trailNotices s k r c)
            ∧ (s.takeEdge k .clear c).counters.slip = s.counters.slip)
      ∧ (w.due = none → isSlip w c = false)
      ∧ (∀ d, w.due = some d →
          (isSlip w c = true ↔
            before (w.expected + BitVec.ofNat 16 ((d.tick - w.expected).toNat / 2)) c = true
              ∧ before d.tick c = false))
      ∧ (∀ m : Nat, m ≤ 32767 →
          deviation (w.expected + BitVec.ofNat 16 m) w.expected = min 30000 m
            ∧ deviation (w.expected - BitVec.ofNat 16 m) w.expected = -(min 30000 m))
      ∧ -30000 ≤ deviation c w.expected ∧ deviation c w.expected ≤ 30000

/-- A LEAD that no record takes: with no record awaiting it a STRAY, naming no sheet; outside STOPPING with one whose
early tick is after the capture an EARLY, naming the first INBOUND record at sensor 0 and the oldest awaiting record
elsewhere (R44, R46, R56). Each is an own jam, and no record is changed by it but that a stop disarms deadlines. -/
def Obligations.LeadsUnmatched : Prop :=
  ∀ (s : State) (c : Tick), matchingState s.path.state = true →
    ((∀ x ∈ s.tracker.table, x.phase ≠ .inbound) →
        s.takeEdge 0 .covered c = s.raiseJams [{ kind := .stray, sensor := some 0, sheetId := none }])
      ∧ (∀ k, 1 ≤ k → (∀ x ∈ s.tracker.table, ¬(x.phase ≠ .inbound ∧ x.leadIndex = k)) →
          s.takeEdge k .covered c = s.raiseJams [{ kind := .stray, sensor := some k, sheetId := none }])
      ∧ (s.path.state ≠ .stopping → ∀ (pre post : List Record) (r : Record), s.tracker.table = pre ++ r :: post →
          ((∀ x ∈ pre, x.phase ≠ .inbound) → r.phase = .inbound →
              (∀ x ∈ s.tracker.table, x.phase = .inbound → ∃ v, x.leadWindow = some v ∧ before c v.early = true) →
              s.takeEdge 0 .covered c
                = s.raiseJams [{ kind := .early, sensor := some 0, sheetId := some r.tag.sheetId }])
            ∧ ∀ k v, 1 ≤ k → (∀ x ∈ pre, ¬(x.phase ≠ .inbound ∧ x.leadIndex = k)) → r.phase ≠ .inbound →
                r.leadIndex = k → r.leadWindow = some v → before c v.early = true →
                s.takeEdge k .covered c
                  = s.raiseJams [{ kind := .early, sensor := some k, sheetId := some r.tag.sheetId }])
      ∧ ∀ r : JamReport, (s.raiseJams [r]).tracker.table.map Record.disarmed = s.tracker.table.map Record.disarmed

/-- A matched TRAIL (R50, R51, R56): the trail index rises, and the trail window for the next sensor is computed while
the lead index exceeds it; at the exit sensor an output-bound record is a delivery (R15, R18) and an OUTBOUND record
with taken yes a pass (R16), removed from the table with the table-empty signal where none is left (R20, R37), and any
other stays. At level TRACE its notice is queued (R61; its length is measured before a pending speed is applied: log
12). In RUNOUT a removal that leaves no RESIDENT and no OUTBOUND record leads to STOPPING (R109, R125). -/
def Obligations.TrailsMatched : Prop :=
  ∀ (s : State) (k : Nat) (c : Tick) (r : Record) (pre post : List Record) (w : Window),
    matchingState s.path.state = true → s.tracker.table = pre ++ r :: post →
    (∀ x ∈ pre, ¬(x.trailIndex = k ∧ k < x.leadIndex)) →
    r.trailIndex = k → k < r.leadIndex → r.leadIndex ≤ s.prof.n → r.trailWindow = some w → inTime s w c →
    let noted (t : State) := noticed t (trailNotices s k r c)
    let delivery := r.phase = .outbound ∧ r.outputBound = some true
    let pass := r.phase = .outbound ∧ r.outputBound ≠ some true ∧ r.taken = some true
    let gone := withRemoval s (pre ++ post)
    let kept := s.tracker.runOut.filter fun x => x.sheetId != r.tag.sheetId
    let delivered :=
      if s.path.state = .runout then
        { gone with
          tracker :=
            { gone.tracker with
              lastDelivered := some r.tag
              runOut := (if 8 ≤ kept.length then kept.drop 1 else kept) ++ [r.tag] }
          counters :=
            { s.counters with
              delivered := raised s.counters.delivered 1
              reportDrop := raised s.counters.reportDrop (if 8 ≤ kept.length then 1 else 0) } }
      else
        { gone with
          tracker := { gone.tracker with lastDelivered := some r.tag }
          counters := { s.counters with delivered := raised s.counters.delivered 1 } }
    let passed := { gone with counters := { s.counters with passed := raised s.counters.passed 1 } }
    let ends := s.path.state = .runout ∧ ∀ x ∈ pre ++ post, x.phase = .inbound
    (k + 1 < r.leadIndex →
        s.takeEdge k .clear c
          = noted
            { withTable s
                (pre
                  ++ { r with
                        trailIndex := k + 1
                        trailWindow := some (trailWindowOf s r.tag.length (r.leadCaptures.getD (k + 1) 0)) } :: post)
              with
              counters :=
                { s.counters with
                  clamp := raised s.counters.clamp (saturations [trailOffsetsOf s r.tag.length]) } })
      ∧ (k + 1 = r.leadIndex → k + 1 < s.prof.n ∨ ¬(delivery ∨ pass) →
          s.takeEdge k .clear c
            = noted (withTable s (pre ++ { r with trailIndex := k + 1, trailWindow := none } :: post)))
      ∧ (k + 1 = s.prof.n → delivery →
          (¬ends → s.takeEdge k .clear c = noted delivered)
            ∧ (ends → s.takeEdge k .clear c = stoppedQuietly (noted delivered)))
      ∧ (k + 1 = s.prof.n → pass →
          (¬ends → s.takeEdge k .clear c = noted passed)
            ∧ (ends → s.takeEdge k .clear c = stoppedQuietly (noted passed)))

/-- A TRAIL that is not matched (R50): with no record to clear the sensor it is ignored with a chatter count; outside
STOPPING with one whose trail window is not yet open it is the own jam SHORT, naming the record, which is not advanced.
-/
def Obligations.TrailsUnmatched : Prop :=
  ∀ (s : State) (k : Nat) (c : Tick), matchingState s.path.state = true →
    ((∀ x ∈ s.tracker.table, ¬(x.trailIndex = k ∧ k < x.leadIndex)) →
        s.takeEdge k .clear c
          = { s with counters := { s.counters with chatter := raised s.counters.chatter 1 } })
      ∧ ∀ (pre post : List Record) (r : Record) (w : Window), s.path.state ≠ .stopping →
          s.tracker.table = pre ++ r :: post → (∀ x ∈ pre, ¬(x.trailIndex = k ∧ k < x.leadIndex)) →
          r.trailIndex = k → k < r.leadIndex → r.trailWindow = some w → before c w.early = true →
          s.takeEdge k .clear c
            = s.raiseJams [{ kind := .short, sensor := some k, sheetId := some r.tag.sheetId }]

/-! ## The cover and the halt line (R42, R98, R99, R117) -/

/-- A cover candidate that has held for 50 ticks changes the debounced level, and DRV with it (R42, R96); the cover
event is answered by state (R117): an opening in RUN and DECIDE is the own jam COVER (R78), in RUNOUT it is recorded and
leads to STOPPING with either escalation (R93), in STANDBY, HELD and VERIFY it leads to CLEARING (R114); a closing leads
from CLEARING to VERIFY with COVER_SETTLE started, or by residue to HELD (R115), and in LINKING the conditions are
judged (R102). In every other state nothing follows. -/
def Obligations.CoverConfirmed : Prop :=
  ∀ (s : State) (d : Candidate CoverLevel), s.inReset = false → s.front.cover.candidate = some d →
    reached s.window.timeBase (d.start + 49) = true →
    let u :=
      { s with
        front := { s.front with cover := { s.front.cover with level := d.level, candidate := none } }
        path := { s.path with drv := drives s.path.state d.level } }
    let go := exec .coverConfirm s
    (d.level = .opened →
        (s.path.state = .run ∨ s.path.state = .decide → FirstJam s → JamRoom s →
            go = .next (stoppedFor u { kind := .cover, sensor := none, sheetId := none }))
          ∧ (s.path.state = .run ∨ s.path.state = .decide →
              go = .next (u.raiseJams [{ kind := .cover, sensor := none, sheetId := none }]))
          ∧ (s.path.state = .runout →
              go = .next (stoppedQuietly (u.recordOwn { kind := .cover, sensor := none, sheetId := none })))
          ∧ (s.path.state = .standby ∨ s.path.state = .held ∨ s.path.state = .verify →
              go = .next { u with path := pathIn u .clearing })
          ∧ (s.path.state = .unconfigured ∨ s.path.state = .linking ∨ s.path.state = .stopping
                ∨ s.path.state = .clearing ∨ s.path.state = .lockout →
              go = .next u))
      ∧ (d.level = .closed →
          (s.path.state = .clearing → s.sensorsClear = true →
              go = .next
                { u with
                  path :=
                    { pathIn u .verify with
                      coverSettle := some (s.window.timeBase + BitVec.ofNat 16 s.prof.coverSettle) } })
            ∧ (s.path.state = .clearing → s.sensorsClear = false →
                let counted := { u with counters := { s.counters with residue := raised s.counters.residue 1 } }
                go = .next
                  { asked counted 0 (.notice (.residue s.path.epoch .verify s.coveredSet)) with
                    path := pathIn u .held })
            ∧ (s.path.state = .linking →
                (s.neighboursKnown = true → s.sensorsClear = true →
                    go = .next { u with path := pathIn u .standby, tracker := { s.tracker with runOut := [] } })
                  ∧ (s.neighboursKnown = false ∨ s.sensorsClear = false → go = .next u))
            ∧ (s.path.state ≠ .clearing → s.path.state ≠ .linking → go = .next u))

/-- In RUN a low sample of the line is a line observation: the empty capture is filled with cause LINE, the station
enters DECIDE holding the line with the DECIDE timer started and the unstarted HANDOFFs flushed, and DRV stays as the
cover has it. A sample in any other state, and a high one in RUN, is kept as the line level and acts on nothing (R98,
R99). That the sample joins the own hold with what the other parties do, and that none is taken in reset, is the model's
choice (logs 7 and 8). -/
def Obligations.LineSamples : Prop :=
  ∀ (s : State) (others : Bool),
    let low := s.path.hold = true ∨ others = true
    let go := exec (.haltLineChange others) s
    (s.inReset = false → s.path.state = .run → low →
        go = .next
          { s with
            path :=
              { s.path with
                state := .decide, hold := true, drv := decide (s.front.cover.level = .closed),
                decideTimer := some (s.window.timeBase + 30), stopSettle := none, coverSettle := none,
                lineHigh := false, othersHold := others }
            jam :=
              { s.jam with
                capture :=
                  match s.jam.capture with
                  | none =>
                    some
                      { cause := .line, kind := none, sensor := none, sheetId := none, origin := none, rank := none }
                  | some x => some x }
            link := { s.link with path := keptAtFlush s.link.path } })
      ∧ (s.inReset = false → s.path.state ≠ .run ∨ ¬low →
          go = .next
            { s with path := { s.path with lineHigh := !s.path.hold && !others, othersHold := others } })
      ∧ (s.inReset = true → go = .next { s with path := { s.path with othersHold := others } })

/-! ## Deadlines (R22, R52 to R54) and timers (R100, R108, R116, R130) -/

/-- An expiry disarms its deadline, and in RUN, DECIDE and RUNOUT a lead expiry is the own jam LATE at the sensor of the
lead index, a trail expiry at a COVERED sensor the own jam STALL there, and a take expiry with taken no the own jam
HANDOFF at the exit sensor; as the first jam of the epoch, in RUN or DECIDE, it stops the station. A trail expiry at a
CLEAR sensor and a take expiry with taken yes have no further effect, but that in RUNOUT the former leads to STOPPING. A
deadline that is not reached, or was armed at this tick, does not expire: a command that comes then is the model's
choice (logs 3, 15). -/
def Obligations.DeadlinesExpire : Prop :=
  ∀ (s : State) (pre post : List Record) (r : Record) (d : Deadline), s.inReset = false →
    s.tracker.table = pre ++ r :: post → (∀ x ∈ pre, x.tag.sheetId ≠ r.tag.sheetId) →
    let id := r.tag.sheetId
    let due := reached s.window.timeBase d.tick = true ∧ d.armedAt ≠ s.window.timeBase
    let now (x : Record) := { s with tracker := { s.tracker with table := pre ++ x :: post } }
    let leadOff := now { r with leadWindow := r.leadWindow.map fun w => { w with due := none } }
    let trailOff := now { r with trailWindow := r.trailWindow.map fun w => { w with due := none } }
    let takeOff := now { r with takeDue := none }
    let first := (s.path.state = .run ∨ s.path.state = .decide) ∧ FirstJam s ∧ JamRoom s
    (∀ w, r.leadWindow = some w → w.due = some d →
        (due → armingState s.path.state = true →
            exec (.leadExpiry id) s
              = .next (leadOff.raiseJams [{ kind := .late, sensor := some r.leadIndex, sheetId := some id }]))
          ∧ (due → first →
              exec (.leadExpiry id) s
                = .next (stoppedFor leadOff { kind := .late, sensor := some r.leadIndex, sheetId := some id }))
          ∧ (due → armingState s.path.state = false → exec (.leadExpiry id) s = .next leadOff)
          ∧ (¬due → exec (.leadExpiry id) s = .next s))
      ∧ (∀ w, r.trailWindow = some w → w.due = some d →
          (due → armingState s.path.state = true → s.stableLevel r.trailIndex = .covered →
              exec (.trailExpiry id) s
                = .next (trailOff.raiseJams [{ kind := .stall, sensor := some r.trailIndex, sheetId := some id }]))
            ∧ (due → first → s.stableLevel r.trailIndex = .covered →
                exec (.trailExpiry id) s
                  = .next (stoppedFor trailOff { kind := .stall, sensor := some r.trailIndex, sheetId := some id }))
            ∧ (due → s.path.state = .runout → s.stableLevel r.trailIndex = .clear →
                exec (.trailExpiry id) s = .next (stoppedQuietly trailOff))
            ∧ (due → s.path.state ≠ .runout → s.stableLevel r.trailIndex = .clear →
                exec (.trailExpiry id) s = .next trailOff)
            ∧ (due → armingState s.path.state = false → exec (.trailExpiry id) s = .next trailOff)
            ∧ (¬due → exec (.trailExpiry id) s = .next s))
      ∧ (r.takeDue = some d →
          (due → armingState s.path.state = true → r.taken = some false →
              exec (.takeExpiry id) s
                = .next
                  (takeOff.raiseJams [{ kind := .handoff, sensor := some (s.prof.n - 1), sheetId := some id }]))
            ∧ (due → first → r.taken = some false →
                exec (.takeExpiry id) s
                  = .next
                    (stoppedFor takeOff { kind := .handoff, sensor := some (s.prof.n - 1), sheetId := some id }))
            ∧ (due → r.taken = some true → exec (.takeExpiry id) s = .next takeOff)
            ∧ (due → armingState s.path.state = false → exec (.takeExpiry id) s = .next takeOff)
            ∧ (¬due → exec (.takeExpiry id) s = .next s))

/-- The DECIDE timer's expiry judges run-out eligibility by the five conditions (R119, R120): an eligible station with a
sheet to run out enters RUNOUT, with the entry lead deadlines disarmed (R121), and any other enters STOPPING. Before its
expiry tick, and outside DECIDE, nothing follows (R100, log 3). -/
def Obligations.DecideEnds : Prop :=
  ∀ s : State, s.inReset = false →
    (s.path.state = .decide → ∀ d, s.path.decideTimer = some d → reached s.window.timeBase d = true →
        (s.eligible = true → s.holdsSheets = true →
            exec .decideTimerExpiry s
              = .next
                { s with
                  path := { pathIn s .runout with drv := true }
                  tracker := { s.tracker with table := s.tracker.table.map Record.atRunout } })
          ∧ (s.eligible = false ∨ s.holdsSheets = false →
              exec .decideTimerExpiry s = .next (stoppedQuietly s)))
      ∧ (s.path.state ≠ .decide ∨ s.path.decideTimer = none
            ∨ (∃ d, s.path.decideTimer = some d ∧ reached s.window.timeBase d = false) →
          exec .decideTimerExpiry s = .next s)
      ∧ (s.eligible = true ↔
          s.front.cover.level = .closed
            ∧ (s.prof.roles.runout = true ∧ s.prof.roles.loop = false)
            ∧ (0 < s.jam.highestRank ∧ s.jam.highestRank < s.prof.rank)
            ∧ (∀ r ∈ s.tracker.table, r.phase ≠ .inbound → r.exit = .a)
            ∧ (s.prof.roles.delivery = true
              ∨ (1 ≤ s.prof.exitA ∧ s.prof.exitA ≤ 14 ∧ (s.rosterEntry s.prof.exitA).configured = true
                ∧ (s.rosterEntry s.prof.exitA).roles.runout = true
                ∧ (s.rosterEntry s.prof.exitA).roles.loop = false
                ∧ s.jam.highestRank < (s.rosterEntry s.prof.exitA).rank)))

/-- The STOP_SETTLE expiry with no census formed: the dropping step removes the INBOUND records from an upstream and the
OUTBOUND records with taken yes (R132); the records left and the run-out list become the census entries with their fates
(R133, R134, R136) under its header (R135); its parts are queued in order (R137); and HELD is entered, with its entry
check (R113). No removal is counted as a delivery or a pass (R17). -/
def Obligations.StopSettles : Prop :=
  ∀ (s : State) (d : Tick), s.inReset = false → s.path.state = .stopping → s.path.stopSettle = some d →
    reached s.window.timeBase d = true → s.census = none →
    let left :=
      s.tracker.table.filter fun r =>
        !((r.phase == .inbound && r.source != .launch) || (r.phase == .outbound && r.taken == some true))
    let entry (tag : SheetTag) (fate : Fate) (lead trail : Nat) : CensusEntry :=
      { tag := tag, fate := fate, leadIndex := lead, trailIndex := trail,
        jamFlag := s.jam.capture.bind (fun c => c.sheetId) == some tag.sheetId }
    let census : Census :=
      { header :=
          { epoch := s.path.epoch, rank := s.prof.rank, cause := s.jam.capture.map fun c => c.cause,
            kind := s.jam.capture.bind fun c => c.kind, laterSet := s.jam.laterSet,
            lastDelivered := s.tracker.lastDelivered, covered := s.coveredSet, lockout := false }
        entries :=
          left.map (fun r =>
              entry r.tag
                (match r.phase with
                  | .inbound => .notFed
                  | .resident => .stranded
                  | .outbound => if r.outputBound = some true then .stranded else .unconfirmed)
                r.leadIndex r.trailIndex)
            ++ s.tracker.runOut.map fun t => entry t .delivered s.prof.n s.prof.n }
    let base := if s.tracker.table = [] then withTable s left else withRemoval s left
    let rest := (censusParts census).foldl State.requestCensusPart { base with census := some census }
    exec .stopSettleExpiry s
      = .next
        (if s.front.cover.level = .opened then { rest with path := pathIn s .clearing }
          else if left = [] ∧ s.sensorsClear = true then
            { rest with
              path :=
                { pathIn s .verify with
                  coverSettle := some (s.window.timeBase + BitVec.ofNat 16 s.prof.coverSettle) } }
          else { rest with path := pathIn s .held })

/-- The COVER_SETTLE expiry clears the segment's accounts in one event (R116): every record is removed uncounted, a
pending speed is applied when any was, the run-out list is emptied, the CLEAR notice names the epoch, the number removed
and the state entered (R141), and the station enters STANDBY with its neighbours known and LINKING otherwise. -/
def Obligations.CoverSettles : Prop :=
  ∀ (s : State) (d : Tick), s.inReset = false → s.path.state = .verify → s.path.coverSettle = some d →
    reached s.window.timeBase d = true →
    let entered := if s.neighboursKnown then PathState.standby else PathState.linking
    let removed := s.tracker.table.length
    exec .coverSettleExpiry s
      = .next
        { asked s 0 (.notice (.clear s.path.epoch removed entered)) with
          window := if s.tracker.table = [] then s.window else windowAfterRemoval s.window []
          tracker := { s.tracker with table := [], runOut := [] }
          path := pathIn s entered }

/-! ## Frames from the job station -/

/-- An accepted SETUP (R163, R164, R167): the profile is stored with the fields as received and the numeric ones
clamped, each clamped value counted (R165, R166); the epoch and the current speed are set; the sensors below n take
their filter modes from their present levels with no candidate (R41); the configured HELLO is queued, dropped and
counted where REPORT is full (R149, R160); and the station enters LINKING, or STANDBY where the three conditions hold
(R102). -/
def Obligations.SetupAccepted : Prop :=
  ∀ (s : State) (f : SetupFrame) (own : Nat), s.inReset = false → Awaits s (.setup 0 f) →
    s.stationNumber = some own →
    s.path.state = .unconfigured → setupFaulty own f = false →
    ∃ t p, exec (.setup 0 f) s = .next t ∧ t.setup.profile = some p
      ∧ p.rank = f.rank.toNat ∧ p.roles = f.roles ∧ p.n = f.n.toNat
      ∧ p.upA = f.upA.toNat ∧ p.upB = f.upB.toNat ∧ p.exitA = f.exitA.toNat ∧ p.exitB = f.exitB.toNat
      ∧ p.bridgeA = f.bridgeA.toNat ∧ (f.upB ≠ 0 → p.bridgeB = f.bridgeB.toNat)
      ∧ p.reachA = f.reachA.toNat ∧ (f.exitB ≠ 0 → p.reachB = f.reachB.toNat)
      ∧ p.divert = (if f.divertPresent then some f.divert else none)
      ∧ p.position 0 = 0 ∧ (1 < p.n → p.position 1 = f.pos1.toNat) ∧ (2 < p.n → p.position 2 = f.pos2.toNat)
      ∧ (3 < p.n → p.position 3 = f.pos3.toNat)
      ∧ p.anchoring = (if f.anchoring = 1 then .nominal else .anchored)
      ∧ p.escalation = (if f.escalation = 1 then .lockout else .fold)
      ∧ p.report = (if f.report = 1 then .slip else if f.report = 2 then .trace else .none)
      ∧ p.speed = max 50 (min 1600 f.speed.toNat) ∧ p.tolPct = min 50 f.tolPct.toNat
      ∧ p.slack = min 500 f.slack.toNat ∧ p.lenTol = min 500 f.lenTol.toNat
      ∧ p.linkAllow = min 500 f.linkAllow.toNat ∧ p.pickDelay = min 2000 f.pickDelay.toNat
      ∧ p.stopSettle = max 20 (min 2000 f.stopSettle.toNat)
      ∧ p.coverSettle = max 50 (min 5000 f.coverSettle.toNat) ∧ p.filter = max 1 (min 15 f.filter.toNat)
      ∧ t.counters =
          { s.counters with
            clamp :=
              raised s.counters.clamp
                ([p.speed != f.speed.toNat, p.tolPct != f.tolPct.toNat, p.slack != f.slack.toNat,
                    p.lenTol != f.lenTol.toNat, p.linkAllow != f.linkAllow.toNat, p.pickDelay != f.pickDelay.toNat,
                    p.stopSettle != f.stopSettle.toNat, p.coverSettle != f.coverSettle.toNat,
                    p.filter != f.filter.toNat].count
                  true)
            reportDrop := raised s.counters.reportDrop (if s.link.report.length < 6 then 0 else 1) }
      ∧ t.window = { s.window with currentSpeed := some p.speed, pendingSpeed := none }
      ∧ (∀ k : Fin 4,
          t.front.sensors[k].pin = s.front.sensors[k].pin ∧ t.front.sensors[k].stable = s.front.sensors[k].stable
            ∧ t.front.sensors[k].candidate = none
            ∧ t.front.sensors[k].mode =
                if k.val < p.n then
                  (if [f.mode0, f.mode1, f.mode2, f.mode3].getD k.val 0 = 1 then .raw else .filtered)
                else .followed)
      ∧ t.front.cover = s.front.cover
      ∧ t.link =
          { (received s).link with
            report :=
              s.link.report
                ++ if s.link.report.length < 6 then
                  [fresh 15
                    (.hello
                      { fresh := false, configured := true, rank := p.rank, roles := p.roles, sensorCount := p.n,
                        exitB := p.exitB != 0 })]
                else [] }
      ∧ (∀ ready : Bool,
          (ready = true ↔
            (∀ m ∈ [p.upA, p.upB, p.exitA, p.exitB], m ≠ 0 → (s.rosterEntry m).configured = true)
              ∧ s.front.cover.level = .closed ∧ ∀ k < p.n, s.stableLevel k = .clear) →
          (ready = true →
              t.path = { pathIn s .standby with epoch := f.epoch } ∧ t.tracker = { s.tracker with runOut := [] })
            ∧ (ready = false → t.path = { pathIn s .linking with epoch := f.epoch } ∧ t.tracker = s.tracker))
      ∧ t.setup = { s.setup with profile := some p }
      ∧ t.jam = s.jam ∧ t.census = s.census ∧ t.inReset = false

/-- A LAUNCH is judged by the four conditions in order (R62): the first that holds refuses it, with the refused counter
up by one and a REFUSED notice naming its sheet id and the reason, dropped and counted where REPORT is full; nothing
else changes (R63). One that fails the source check is counted and brings no notice. With no condition holding, the
LAUNCH creates one INBOUND record of source LAUNCH, anchored PICK_DELAY ticks after receipt with its entry deadline
armed (R12, R64). -/
def Obligations.LaunchJudged : Prop :=
  ∀ (s : State) (tag : WireTag), s.inReset = false →
    let held := ∃ r ∈ s.tracker.table, r.tag.sheetId = tag.sheetId
    let refusal (reason : RefuseReason) :=
      (s.strapFault = false → s.link.report.length < 6 →
          exec (.launch 0 tag) s
            = .next (reported (refusedOnce s) 0 (.notice (.refused tag.sheetId reason))))
        ∧ (s.strapFault = false → 6 ≤ s.link.report.length →
            exec (.launch 0 tag) s
              = .next
                { received s with
                  counters :=
                    { s.counters with
                      refused := raised s.counters.refused 1, reportDrop := raised s.counters.reportDrop 1 } })
        ∧ (s.strapFault = true → exec (.launch 0 tag) s = .next (refusedOnce s))
    let anchor := s.window.timeBase + BitVec.ofNat 16 s.prof.pickDelay
    (∀ source : Byte, source ≠ 0 → Awaits s (.launch source tag) →
        exec (.launch source tag) s = .next (refusedOnce s))
      ∧ (Awaits s (.launch 0 tag) →
          (s.path.state ≠ .run → refusal .notRun)
            ∧ (s.path.state = .run → s.prof.roles.feed = false → refusal .notFeed)
            ∧ (s.path.state = .run → s.prof.roles.feed = true → 8 ≤ s.tracker.table.length → refusal .tableFull)
            ∧ (s.path.state = .run → s.prof.roles.feed = true → s.tracker.table.length < 8 → held →
                refusal .duplicate)
            ∧ (s.path.state = .run → s.prof.roles.feed = true → s.tracker.table.length < 8 → ¬held →
                exec (.launch 0 tag) s
                  = .next
                    { withTable (received s)
                        (insertInbound (announced s tag .launch s.prof.bridgeA anchor true) s.tracker.table) with
                      counters :=
                        { s.counters with
                          clamp := raised s.counters.clamp (creationClamps s tag s.prof.bridgeA) } }))

/-- SPEED is a command from the job station (R36): refused from any other source and in UNCONFIGURED, with the refused
counter up by one; otherwise the value is clamped to 50..1600, a clamping counted, and becomes the current speed at once
with the table empty, and the pending speed, replacing one held, with any record in it. -/
def Obligations.SpeedTaken : Prop :=
  ∀ (s : State) (source : Byte) (value : BitVec 16), s.inReset = false → Awaits s (.speed source value) →
    let v := max 50 (min 1600 value.toNat)
    let clamped := { s.counters with clamp := raised s.counters.clamp (if v = value.toNat then 0 else 1) }
    (source ≠ 0 ∨ s.path.state = .unconfigured → exec (.speed source value) s = .next (refusedOnce s))
      ∧ (source = 0 → s.path.state ≠ .unconfigured → s.tracker.table = [] →
          exec (.speed source value) s
            = .next
              { received s with
                counters := clamped, window := { s.window with currentSpeed := some v, pendingSpeed := none } })
      ∧ (source = 0 → s.path.state ≠ .unconfigured → s.tracker.table ≠ [] →
          exec (.speed source value) s
            = .next { received s with counters := clamped, window := { s.window with pendingSpeed := some v } })

/-- RESUME is a command from the job station, accepted in STANDBY with the line high and an epoch other than the
station's: the epoch is set, the jam items cleared, the census discarded, and RUN entered with the hold released, DRV on
while the cover is CLOSED, no timer running and the Sheet Table empty. Otherwise it is refused: the refused counter goes
up by one and nothing else changes. -/
def Obligations.ResumeJudged : Prop :=
  ∀ (s : State) (source epoch : Byte), s.inReset = false → Awaits s (.resume source epoch) →
    let accepted := source = 0 ∧ s.path.state = .standby ∧ s.path.lineHigh = true ∧ epoch ≠ s.path.epoch
    (accepted →
        exec (.resume source epoch) s
          = .next
            { received s with
              path :=
                { s.path with
                  state := .run, epoch := epoch, hold := false, drv := decide (s.front.cover.level = .closed),
                  decideTimer := none, stopSettle := none, coverSettle := none }
              jam :=
                { capture := none, laterSet := 0, laterCount := 0, highestRank := 0, jamSent := false }
              census := none })
      ∧ (¬accepted → exec (.resume source epoch) s = .next (refusedOnce s))
      ∧ (accepted → EmptyInv s → s.tracker.table = [])

/-- RESTART, obeyed in every state (R118, R169): every block takes its RESTART values (R159 and the table of 10.2), the
queues are emptied and an attempt stopped (R156), the counters, the roster, the straps, the levels, the time base and
the cover candidate are kept, and the fresh HELLO is queued as the first frame. At a station with a strap fault it
changes nothing. -/
def Obligations.Restarted : Prop :=
  ∀ s : State, s.inReset = false → Awaits s (.restart 0) →
    (s.strapFault = true → exec (.restart 0) s = .next (received s))
      ∧ (s.strapFault = false →
          exec (.restart 0) s
            = .next
              { s with
                path := { pathIn s .unconfigured with epoch := 0 }
                window := { s.window with currentSpeed := none, pendingSpeed := none }
                front :=
                  { s.front with
                    sensors := s.front.sensors.map fun x => { x with mode := .followed, candidate := none } }
                tracker := { table := [], runOut := [], lastDelivered := none, gate := .a }
                jam :=
                  { capture := none, laterSet := 0, laterCount := 0, highestRank := 0, jamSent := false }
                setup := { s.setup with profile := none }
                census := none
                link :=
                  { urgent := [], path := [],
                    report :=
                      [fresh 15
                        (.hello
                          { fresh := true, configured := false, rank := 0, roles := noRoles, sensorCount := 0,
                            exitB := false })],
                    attempt := none, txEnable := false, assembler := .waiting, collecting := [],
                    idleCount := 0, charClock := 0 } })

/-- A QUERY with its census flag clear queues one STATUS frame built from the values current in its event, in every
state (R154); a full REPORT queue drops and counts it (R149). -/
def Obligations.StatusAnswered : Prop :=
  ∀ s : State, s.inReset = false → Awaits s (.queryStatus 0) → s.strapFault = false →
    (s.link.report.length < 6 →
        exec (.queryStatus 0) s
          = .next
            (reported (received s) 0
              (.status
                { state := s.path.state, epoch := s.path.epoch, recordCount := s.tracker.table.length,
                  capture := s.jam.capture, laterSet := s.jam.laterSet, laterCount := s.jam.laterCount,
                  highestRank := s.jam.highestRank, currentSpeed := s.window.currentSpeed,
                  pendingSpeed := s.window.pendingSpeed, configured := s.setup.roster.map fun e => e.configured,
                  levels := s.front.sensors.map fun x => x.stable, cover := s.front.cover.level,
                  lineHigh := s.path.lineHigh, counters := s.counters })))
      ∧ (6 ≤ s.link.report.length →
          exec (.queryStatus 0) s
            = .next
              { received s with
                counters := { s.counters with reportDrop := raised s.counters.reportDrop 1 } })

/-- A QUERY with its census flag set queues every part of the formed census again, part 1 before part 2, and leaves it
formed; with none formed it is refused (R142). A part that finds the REPORT queue full takes the place of the newest
frame there that is no CENSUS part and has not begun, or is dropped where there is none, and either is counted (R137).
-/
def Obligations.CensusAnswered : Prop :=
  ∀ s : State, s.inReset = false →
    (Awaits s (.queryCensus 0) → s.census = none → exec (.queryCensus 0) s = .next (refusedOnce s))
      ∧ (Awaits s (.queryCensus 0) → ∀ c, s.census = some c →
          exec (.queryCensus 0) s = .next ((censusParts c).foldl State.requestCensusPart (received s))
            ∧ (s.strapFault = false → s.link.report.length ≤ 4 →
                exec (.queryCensus 0) s
                  = .next
                    { received s with
                      link :=
                        { (received s).link with
                          report := s.link.report ++ (censusParts c).map fun p => fresh 0 (.census p) } }))
      ∧ (∀ c : Census, c.entries.length ≤ 16 →
          (censusParts c).flatMap (fun p => p.entries) = c.entries
            ∧ (∀ p ∈ censusParts c, p.header = c.header ∧ p.total = c.entries.length ∧ p.entries.length ≤ 8
                ∧ p.parts = (censusParts c).length)
            ∧ (censusParts c).map (fun p => p.number) = if c.entries.length ≤ 8 then [1] else [1, 2])
      ∧ ∀ (part : CensusPart) (front back : List Entry) (e : Entry),
          s.strapFault = false → 6 ≤ s.link.report.length →
          (s.link.report = front ++ e :: back → e.isCensus = false → e.started = false →
              (∀ x ∈ back, x.isCensus = true ∨ x.started = true) →
              s.requestCensusPart part
                = { s with
                    link := { s.link with report := front ++ back ++ [fresh 0 (.census part)] }
                    counters := { s.counters with reportDrop := raised s.counters.reportDrop 1 } })
            ∧ ((∀ x ∈ s.link.report, x.isCensus = true ∨ x.started = true) →
                s.requestCensusPart part
                  = { s with counters := { s.counters with reportDrop := raised s.counters.reportDrop 1 } })

/-! ## Frames from other stations -/

/-- A HELLO from another station replaces its roster entry whole, a fresh one marking it unconfigured (R162). A fresh
one draws one non-fresh HELLO in reply, with rank 0 and no roles where the profile is absent (R160), unless such a one
waits unstarted in the REPORT queue; from a neighbour in RUN it is the own jam PEER (R80). A neighbour become
unconfigured takes STANDBY to LINKING (R104); in LINKING a changed entry brings the judgement of R102. In every other
case nothing follows. The station's own number is ignored uncounted, and 0 or a number above 14 refused (R161). -/
def Obligations.HellosTaken : Prop :=
  ∀ (s : State) (source : Byte) (f : HelloFrame), s.inReset = false → Awaits s (.hello source f) →
    let n := source.toNat
    let entry : RosterEntry :=
      { configured := f.configured && !f.fresh, rank := if f.rank.toNat ≤ 14 then f.rank.toNat else 0,
        roles := f.roles }
    let u :=
      { received s with setup := { s.setup with roster := s.setup.roster.setIfInBounds (n - 1) entry } }
    let answered :=
      if f.fresh = true ∧ s.link.report.any Entry.waitingHello = false then
        asked u 15
          (.hello
            { fresh := false, configured := s.setup.profile.isSome, rank := s.prof.rank, roles := s.prof.roles,
              sensorCount := s.prof.n, exitB := s.prof.exitB != 0 })
      else u
    let neighbour := n = s.prof.upA ∨ n = s.prof.upB ∨ n = s.prof.exitA ∨ n = s.prof.exitB
    let lost := neighbour ∧ (s.rosterEntry n).configured = true ∧ entry.configured = false
    let ready := u.readyForStandby = true ∧ s.rosterEntry n ≠ entry
    let go := exec (.hello source f) s
    (s.stationNumber = some n → go = .next (received s))
      ∧ (s.stationNumber ≠ some n → n = 0 ∨ 14 < n → go = .next (refusedOnce s))
      ∧ (s.stationNumber ≠ some n → 1 ≤ n → n ≤ 14 →
          (s.path.state = .run →
              (f.fresh = true ∧ neighbour →
                  go = .next (answered.raiseJams [{ kind := .peer, sensor := none, sheetId := none }]))
                ∧ (¬(f.fresh = true ∧ neighbour) → go = .next answered))
            ∧ (s.path.state = .standby →
                (lost → go = .next { answered with path := pathIn s .linking }) ∧ (¬lost → go = .next answered))
            ∧ (s.path.state = .linking →
                (ready →
                    go = .next { answered with path := pathIn s .standby, tracker := { s.tracker with runOut := [] } })
                  ∧ (¬ready → go = .next answered))
            ∧ (s.path.state ≠ .run → s.path.state ≠ .standby → s.path.state ≠ .linking → go = .next answered))
      ∧ ∀ e : Entry, e.waitingHello = true ↔ e.started = false ∧ ∃ h, e.body = .hello h ∧ h.fresh = false

/-- A HANDOFF from a configured upstream (R68 to R70): in RUN and DECIDE it creates an INBOUND record whose entry
deadline is armed, in RUNOUT and STOPPING one whose entry deadline is stored disarmed (R13), anchored at receipt - age -
2, with bridge A for upstream A and bridge B for upstream B; a full table is the own jam TABLE_FULL and a sheet id
already held the own jam DUPLICATE. From any other source, and in any other state, it is ignored and counted as refused.
-/
def Obligations.HandoffsTaken : Prop :=
  ∀ (s : State) (source : Byte) (tag : WireTag) (age : BitVec 16), s.inReset = false →
    Awaits s (.handoff source tag age) →
    let n := source.toNat
    let held := ∃ r ∈ s.tracker.table, r.tag.sheetId = tag.sheetId
    let anchor := s.window.timeBase - BitVec.ofNat 16 (min 30000 age.toNat) - 2
    let armed := decide (s.path.state = .run ∨ s.path.state = .decide)
    let created (up : Source) (d : Nat) :=
      { withTable (received s) (insertInbound (announced s tag up d anchor armed) s.tracker.table) with
        counters := { s.counters with clamp := raised s.counters.clamp (creationClamps s tag d) } }
    let go := exec (.handoff source tag age) s
    (n = 0 ∨ (n ≠ s.prof.upA ∧ n ≠ s.prof.upB) ∨ matchingState s.path.state = false → go = .next (refusedOnce s))
      ∧ (matchingState s.path.state = true → s.tracker.table.length < 8 → ¬held → n ≠ 0 →
          (n = s.prof.upA → go = .next (created .upA s.prof.bridgeA))
            ∧ (n ≠ s.prof.upA → n = s.prof.upB → go = .next (created .upB s.prof.bridgeB)))
      ∧ (matchingState s.path.state = true → n ≠ 0 → n = s.prof.upA ∨ n = s.prof.upB →
          (8 ≤ s.tracker.table.length →
              go = .next
                ((received s).raiseJams [{ kind := .tableFull, sensor := none, sheetId := some tag.sheetId }]))
            ∧ (s.tracker.table.length < 8 → held →
                go = .next
                  ((received s).raiseJams [{ kind := .duplicate, sensor := none, sheetId := some tag.sheetId }])))

/-- A TAKEN is accepted in RUN, DECIDE, RUNOUT and STOPPING for an OUTBOUND record of its sheet id, not output-bound and
with taken no, from the station the profile names for the record's exit, and not from 0 (R72): taken becomes yes, and a
record whose trailing edge has cleared is removed as a pass (R16, R73), which in RUNOUT brings the record condition
(R109). Any other TAKEN is ignored and counted as refused. -/
def Obligations.TakensTaken : Prop :=
  ∀ (s : State) (source : Byte) (id : SheetId), s.inReset = false → Awaits s (.taken source id) →
    let open_ (r : Record) :=
      r.tag.sheetId = id ∧ r.phase = .outbound ∧ r.outputBound = some false ∧ r.taken = some false
    let go := exec (.taken source id) s
    (matchingState s.path.state = false ∨ source = 0 ∨ (∀ r ∈ s.tracker.table, ¬open_ r) →
        go = .next (refusedOnce s))
      ∧ ∀ (pre post : List Record) (r : Record), matchingState s.path.state = true → source ≠ 0 →
          s.tracker.table = pre ++ r :: post → (∀ x ∈ pre, ¬open_ x) → open_ r →
          let passed :=
            { withRemoval (received s) (pre ++ post) with
              counters := { s.counters with passed := raised s.counters.passed 1 } }
          let ends := s.path.state = .runout ∧ ∀ x ∈ pre ++ post, x.phase = .inbound
          (source.toNat ≠ s.prof.exitStation r.exit → go = .next (refusedOnce s))
            ∧ (source.toNat = s.prof.exitStation r.exit →
                (r.trailIndex ≠ s.prof.n →
                    go = .next
                      { received s with
                        tracker :=
                          { s.tracker with table := pre ++ { r with taken := some true } :: post } })
                  ∧ (r.trailIndex = s.prof.n →
                      (¬ends → go = .next passed) ∧ (ends → go = .next (stoppedQuietly passed))))

/-- A JAM frame (R82, R89 to R91): outside RUN, DECIDE, RUNOUT and STOPPING, and from the station's own number, it is
ignored uncounted, whatever else a frame of its own number holds (the model's choice for one that is refusable besides,
log 25); with source 0 or above 14 (the latter the model's inference, log 11), an undefined kind, a rank
outside 1..14 or another epoch it is refused and counted. Otherwise it fills an empty or LINE capture with cause REMOTE
or is recorded as a later kind, and raises the highest jam rank to its rank (R87). RUN, with the HANDOFFs flushed, and
DECIDE end in RUNOUT or STOPPING by eligibility (R106, R108); RUNOUT ends in STOPPING when the rank is at least the
station's or eligibility is lost (R122); STOPPING stays. -/
def Obligations.JamFramesTaken : Prop :=
  ∀ (s : State) (source : Byte) (f : JamFrame), s.inReset = false → Awaits s (.jam source f) →
    let n := source.toNat
    let go := exec (.jam source f) s
    (matchingState s.path.state = false ∨ s.stationNumber = some n → go = .next (received s))
      ∧ (matchingState s.path.state = true → s.stationNumber ≠ some n →
          n = 0 ∨ 14 < n ∨ f.kind = 0 ∨ 12 < f.kind.toNat ∨ f.rank = 0 ∨ 14 < f.rank.toNat ∨ f.epoch ≠ s.path.epoch →
          go = .next (refusedOnce s))
      ∧ ∀ kind : JamKind, matchingState s.path.state = true → s.stationNumber ≠ some n → 1 ≤ n → n ≤ 14 →
          f.kind.toNat = kindCode kind → 1 ≤ f.rank.toNat → f.rank.toNat ≤ 14 → f.epoch = s.path.epoch →
          let u (fills : Bool) :=
            { received s with
              jam :=
                if fills then
                  { s.jam with
                    capture := some
                      { cause := .remote, kind := some kind,
                        sensor := if f.sensor.toNat ≤ 3 then some f.sensor.toNat else none,
                        sheetId := if f.noSheet then none else some f.sheetId,
                        origin := some n, rank := some f.rank.toNat }
                    highestRank := max s.jam.highestRank f.rank.toNat }
                else
                  { s.jam with
                    laterSet := s.jam.laterSet ||| BitVec.twoPow 12 (kindCode kind - 1)
                    laterCount := min 255 (s.jam.laterCount + 1)
                    highestRank := max s.jam.highestRank f.rank.toNat } }
          let flushed (x : State) :=
            if s.path.state = .run then { x with link := { x.link with path := keptAtFlush s.link.path } } else x
          ∀ fills : Bool,
            (fills = true ↔ s.jam.capture = none ∨ ∃ c, s.jam.capture = some c ∧ c.cause = .line) →
            (s.path.state = .run ∨ s.path.state = .decide →
                ((u fills).eligible = true → (u fills).holdsSheets = true →
                    go = .next
                      { flushed (u fills) with
                        path := { pathIn s .runout with drv := true }
                        tracker := { s.tracker with table := s.tracker.table.map Record.atRunout } })
                  ∧ ((u fills).eligible = false ∨ (u fills).holdsSheets = false →
                      go = .next (stoppedQuietly (flushed (u fills)))))
              ∧ (s.path.state = .runout →
                  (s.prof.rank ≤ f.rank.toNat ∨ (u fills).eligible = false → go = .next (stoppedQuietly (u fills)))
                    ∧ (f.rank.toNat < s.prof.rank → (u fills).eligible = true → go = .next (u fills)))
              ∧ (s.path.state = .stopping → go = .next (u fills))

/-- A command whose source is not 0 is not handed on and counted as refused, and so is a CENSUS, NOTICE or STATUS frame
whatever its source (R148). A SETUP from 0 is refused and counted, and changes nothing else, with a strap fault, in any
state but UNCONFIGURED, and with any of the structural faults of R164 (R163). -/
def Obligations.RefusedAndCounted : Prop :=
  ∀ (s : State) (source : Byte), s.inReset = false →
    (source ≠ 0 →
        (∀ f, Awaits s (.setup source f) → exec (.setup source f) s = .next (refusedOnce s))
          ∧ (∀ tag, Awaits s (.launch source tag) → exec (.launch source tag) s = .next (refusedOnce s))
          ∧ (∀ v, Awaits s (.speed source v) → exec (.speed source v) s = .next (refusedOnce s))
          ∧ (∀ e, Awaits s (.resume source e) → exec (.resume source e) s = .next (refusedOnce s))
          ∧ (Awaits s (.restart source) → exec (.restart source) s = .next (refusedOnce s))
          ∧ (Awaits s (.queryStatus source) → exec (.queryStatus source) s = .next (refusedOnce s))
          ∧ (Awaits s (.queryCensus source) → exec (.queryCensus source) s = .next (refusedOnce s)))
      ∧ (∀ type payload, (Instr.untakenFrame source type payload).WellFormed = true →
          Awaits s (.untakenFrame source type payload) →
          exec (.untakenFrame source type payload) s = .next (refusedOnce s))
      ∧ ∀ f : SetupFrame, Awaits s (.setup 0 f) →
          let positions := [f.pos1.toNat, f.pos2.toNat, f.pos3.toNat]
          let faulty (own : Nat) :=
            (f.n.toNat < 1 ∨ 4 < f.n.toNat)
              ∨ (1 < f.n.toNat ∧ (f.pos1.toNat = 0 ∨ 20000 < f.pos1.toNat))
              ∨ (∃ j, 1 ≤ j ∧ j < 3 ∧ j + 1 < f.n.toNat
                  ∧ (positions.getD j 0 ≤ positions.getD (j - 1) 0 ∨ 20000 < positions.getD j 0))
              ∨ (f.rank.toNat < 1 ∨ 14 < f.rank.toNat)
              ∨ (∃ x ∈ [f.upA, f.upB, f.exitA, f.exitB], x = 15 ∨ x.toNat = own)
              ∨ (f.exitB ≠ 0 ∧ f.divertPresent = false)
              ∨ (f.roles.feed = true ∧ f.bridgeA = 0)
              ∨ (f.roles.delivery = true ∧ f.exitA ≠ 0)
              ∨ (1 < f.anchoring.toNat ∨ 1 < f.escalation.toNat ∨ 2 < f.report.toNat
                ∨ ∃ j < 4, j < f.n.toNat ∧ 1 < ([f.mode0, f.mode1, f.mode2, f.mode3].getD j 0).toNat)
          (s.strapFault = true → exec (.setup 0 f) s = .next (refusedOnce s))
            ∧ (s.path.state ≠ .unconfigured → exec (.setup 0 f) s = .next (refusedOnce s))
            ∧ ∀ own, s.stationNumber = some own → s.path.state = .unconfigured →
                (faulty own → exec (.setup 0 f) s = .next (refusedOnce s)) ∧ (setupFaulty own f = true ↔ faulty own)

/-! ## The Link Controller (chapter 9) -/

/-- A marked character begins a frame: one to the station's number or to 15 is collected and any other let by (R145), a
strap-fault station collecting 15 alone (R156). In WAITING and PASSING any other character, those of a frame's command
among them, only sets the idle count to 0 (R144). In TAKING a character is collected (R145), and one that ends a frame
with every check passed hands it to its owner as the frame's own command does (R148; log 4). A receive fault abandons
the frame with one count (R147): a stop bit of 0, a mark, which begins a new frame, a length above 72, a CRC that
differs, and after a good CRC a type or a length that is none. An idle count above 2 returns PASSING to WAITING and
abandons the frame of TAKING. What a frame's command means while its frame, or another one, is collected, that an
ASSEMBLER_IDLE of another idle count changes nothing, and that nothing is abandoned while nothing is collected, is the
model's choice (logs 3, 5 and 6). -/
def Obligations.FramesAssembled : Prop :=
  ∀ s : State, s.inReset = false →
    let mine (value : Byte) := value = 15 ∨ s.stationNumber = some value.toNat
    let seen (condition : Assembler) (held : List Byte) :=
      { s with
        link := { s.link with assembler := condition, collecting := held, idleCount := 0, charClock := 0 } }
    let abandoned (x : State) :=
      { x with counters := { s.counters with receiveError := raised s.counters.receiveError 1 } }
    (∀ c : Character,
        let bytes := s.link.collecting ++ [c.data]
        let go := exec (.frameAbandon (some c)) s
        (c.mark = true → c.stop = true →
            go = exec (.markedCharacter c.data) s
              ∧ (s.link.assembler ≠ .taking →
                  (mine c.data → go = .next (seen .taking [c.data])) ∧ (¬mine c.data → go = .next (seen .passing [])))
              ∧ (s.link.assembler = .taking →
                  (mine c.data → go = .next (abandoned (seen .taking [c.data])))
                    ∧ (¬mine c.data → go = .next (abandoned (seen .passing [])))))
          ∧ (c.mark = false ∨ c.stop = false → s.link.assembler ≠ .taking →
              go = .next (seen s.link.assembler s.link.collecting))
          ∧ (c.stop = false → s.link.assembler = .taking → go = .next (abandoned (seen .waiting [])))
          ∧ (c.mark = false → c.stop = true → s.link.assembler = .taking →
              (∀ fault, fault ≠ .idleGap → decodeFrame bytes = .error fault → go = .next (abandoned (seen .waiting [])))
                ∧ (decodeFrame bytes = .error .idleGap → go = .next (seen .taking bytes))
                ∧ (∀ i, decodeFrame bytes = .ok i → Awaits s i ∧ go = exec i s)))
      ∧ (∀ i : Instr, (encodeFrame 0 i).isSome = true → s.link.assembler ≠ .taking →
          exec i s = .next (seen s.link.assembler s.link.collecting))
      ∧ (s.link.assembler = .taking → 2 < s.link.idleCount →
          exec (.frameAbandon none) s
            = .next (abandoned { s with link := { s.link with assembler := .waiting, collecting := [] } }))
      ∧ (s.link.assembler ≠ .taking ∨ s.link.idleCount ≤ 2 → exec (.frameAbandon none) s = .next s)
      ∧ (s.link.assembler = .passing → 2 < s.link.idleCount →
          exec (.assemblerIdle s.link.idleCount) s = .next { s with link := { s.link with assembler := .waiting } })
      ∧ (∀ idle, s.link.assembler ≠ .passing ∨ s.link.idleCount ≤ 2 ∨ idle ≠ s.link.idleCount →
          exec (.assemblerIdle idle) s = .next s)
      ∧ (∀ i : Instr, (encodeFrame 0 i).isSome = true → i.WellFormed = true → s.link.assembler = .taking →
          s.link.collecting ≠ [] → ¬Awaits s i → exec i s = .next s)
      ∧ (∀ (dest source : Byte) (type : ReportType) (payload : List Byte) (k : Nat), payload.length ≤ 255 →
          (Instr.untakenFrame source type payload).WellFormed = false → s.link.assembler = .taking → 1 ≤ k →
          k < payload.length + 5 →
          s.link.collecting = (frameBytes dest source (reportFrameType type) payload).take k →
          exec (.untakenFrame source type payload) s = .next (abandoned (seen .waiting [])))
      ∧ ∀ (dest source code check : Byte) (payload : List Byte), payload.length ≤ 255 →
          let head := [dest, source, code, BitVec.ofNat 8 payload.length]
          let frame := head ++ payload ++ [check]
          (72 < payload.length → decodeFrame head = .error .lengthAbove72)
            ∧ (payload.length ≤ 72 →
                (∀ m, m < frame.length → decodeFrame (frame.take m) = .error .idleGap)
                  ∧ (check ≠ crc8 (head ++ payload) → decodeFrame frame = .error .crcDiffers)
                  ∧ (check = crc8 (head ++ payload) →
                      ((∀ type, typeCode type ≠ code) → decodeFrame frame = .error .unknownType)
                        ∧ ∀ type, typeCode type = code →
                            (payload.length ∉ payloadLengths type → decodeFrame frame = .error .lengthNotAllowed)
                              ∧ (payload.length ∈ payloadLengths type →
                                  decodeFrame frame = .ok (commandOfFrame source payload type))))

/-- The offered frame is the head of the first non-empty queue in the order URGENT, PATH, REPORT, and begins at the end
of a character time when the idle count has reached its gap, 4, 20 or 36 plus the station's number plus 16 times its
retry number, with no attempt in progress (R150): its started mark is set, PB_TXEN driven, and its bytes formed with
this tick's age (R31, R151). Below the gap it waits, and so does every frame while an attempt is in progress or at a
station with a strap fault (R156); a command that comes while no frame
begins, or names another idle count, changes nothing (log 3). PB_TX carries
each character of the attempt as start bit 0, eight data bits from the least significant, the mark, 1 in the first
character alone, and stop bit 1 (R144), and is high outside an attempt (log 23). -/
def Obligations.TransmitBegins : Prop :=
  ∀ s : State, s.inReset = false →
    let go := exec (.transmitStart s.link.idleCount) s
    let begun (own : Nat) (cls : QueueClass) (e : Entry) :=
      { s.link with
        attempt := some { cls := cls, bytes := attemptBytes s.window.timeBase own e }, txEnable := true, idleCount := 0,
        charClock := 0 }
    (s.stationNumber = none ∨ s.link.attempt ≠ none ∨ s.link.charClock ≠ 0
          ∨ (s.link.urgent = [] ∧ s.link.path = [] ∧ s.link.report = []) → go = .next s)
      ∧ (∀ idle, idle ≠ s.link.idleCount → exec (.transmitStart idle) s = .next s)
      ∧ (∀ (own : Nat) (e : Entry) (rest : List Entry), s.stationNumber = some own → s.link.attempt = none →
          s.link.charClock = 0 →
          (s.link.urgent = e :: rest →
              (s.link.idleCount < 4 + own + 16 * e.retry → go = .next s)
                ∧ (4 + own + 16 * e.retry ≤ s.link.idleCount →
                    go = .next
                      { s with
                        link := { begun own .urgent e with urgent := { e with started := true } :: rest } }))
            ∧ (s.link.urgent = [] → s.link.path = e :: rest →
                (s.link.idleCount < 20 + own + 16 * e.retry → go = .next s)
                  ∧ (20 + own + 16 * e.retry ≤ s.link.idleCount →
                      go = .next
                        { s with link := { begun own .path e with path := { e with started := true } :: rest } }))
            ∧ (s.link.urgent = [] → s.link.path = [] → s.link.report = e :: rest →
                (s.link.idleCount < 36 + own + 16 * e.retry → go = .next s)
                  ∧ (36 + own + 16 * e.retry ≤ s.link.idleCount →
                      go = .next
                        { s with
                          link := { begun own .report e with report := { e with started := true } :: rest } })))
      ∧ (∀ (a : Attempt) (j : Nat), s.link.attempt = some a → j < a.bytes.length →
          pbTxPin s (11 * j) = false
            ∧ (∀ i < 8, pbTxPin s (11 * j + 1 + i) = (a.bytes.getD j 0).getLsbD i)
            ∧ pbTxPin s (11 * j + 9) = decide (j = 0)
            ∧ pbTxPin s (11 * j + 10) = true)
      ∧ (s.link.attempt = none → ∀ bit, pbTxPin s bit = true)

/-- An attempt ends by success, and its frame leaves its queue, or by a collision, which counts a retry and leaves the
frame at the head with its retry number up by one (R151), or discards and counts a frame whose retry number is 3 already
(R152): of the PATH or URGENT class in RUN that is the own jam LINK, and otherwise nothing follows (R79). PB_TXEN goes
low and the idle count starts from 0. -/
def Obligations.AttemptsEnd : Prop :=
  ∀ (s : State) (a : Attempt) (e : Entry) (rest : List Entry), s.inReset = false → s.link.attempt = some a →
    s.link.queue a.cls = e :: rest →
    let quiet := { s.link with attempt := none, txEnable := false, idleCount := 0, charClock := 0 }
    let withQueue (q : List Entry) : Link :=
      match a.cls with
      | .urgent => { quiet with urgent := q }
      | .path => { quiet with path := q }
      | .report => { quiet with report := q }
    let retried := { s.counters with transmitRetry := raised s.counters.transmitRetry 1 }
    let discarded :=
      { s with
        link := withQueue rest
        counters := { retried with transmitDiscard := raised s.counters.transmitDiscard 1 } }
    exec .transmitComplete s = .next { s with link := withQueue rest }
      ∧ (e.retry < 3 →
          exec .collision s
            = .next { s with link := withQueue ({ e with retry := e.retry + 1 } :: rest), counters := retried })
      ∧ (3 ≤ e.retry →
          (s.path.state ≠ .run ∨ a.cls = .report → exec .collision s = .next discarded)
            ∧ (s.path.state = .run → a.cls ≠ .report →
                exec .collision s
                  = .next (discarded.raiseJams [{ kind := .link, sensor := none, sheetId := none }])))

/-! ## The Jam Monitor (chapter 5) -/

/-- How an own jam is recorded and what follows (R83 to R88, R91, R93, R106 to R111): it fills an empty capture, or
replaces a LINE capture unless it is a TABLE_FULL found outside RUN, or is a later kind; it raises the highest jam rank
to the station's rank; the first of the epoch sets the JAM-sent flag and queues the JAM frame, dropped with a count
where URGENT is full. RUN, with the HANDOFFs flushed, and DECIDE give way to STOPPING; STOPPING stays; RUNOUT gives way
to STOPPING with escalation FOLD, and with LOCKOUT to LOCKOUT. There the census is formed without the dropping step
under the LOCKOUT flag (R138): its header holds epoch, rank, capture, later set, last-delivered tag and covered set
(R135), and its entries the tags, fates, indices and jam flags of the records not passed over and of the run-out list
(R133, R134, R136); its parts are queued in order (R137). -/
def Obligations.OwnJamsRecorded : Prop :=
  ∀ (s : State) (r : JamReport), s.strapFault = false →
    let lineOrNone := s.jam.capture = none ∨ ∃ c, s.jam.capture = some c ∧ c.cause = .line
    let kept := r.kind = .tableFull ∧ s.path.state ≠ .run ∧ s.jam.capture ≠ none
    let t := s.recordOwn r
    (lineOrNone ∧ ¬kept →
        t.jam =
          { s.jam with
            capture := some (ownCapture s r), highestRank := max s.jam.highestRank s.prof.rank, jamSent := true })
      ∧ (¬lineOrNone ∨ kept →
          t.jam =
            { s.jam with
              laterSet := s.jam.laterSet ||| BitVec.twoPow 12 (kindCode r.kind - 1)
              laterCount := min 255 (s.jam.laterCount + 1)
              highestRank := max s.jam.highestRank s.prof.rank
              jamSent := true })
      ∧ (s.jam.jamSent = true → t = { s with jam := t.jam })
      ∧ (s.jam.jamSent = false → s.link.urgent.length < 2 →
          t = { s with
                jam := t.jam, link := { s.link with urgent := s.link.urgent ++ [ownJamEntry s r] } })
      ∧ (s.jam.jamSent = false → 2 ≤ s.link.urgent.length →
          t = { s with
                jam := t.jam
                counters := { s.counters with reportDrop := raised s.counters.reportDrop 1 } })
      ∧ (s.path.state = .run →
          s.raiseJams [r] = stoppedQuietly { t with link := { t.link with path := keptAtFlush s.link.path } })
      ∧ (s.path.state = .decide → s.raiseJams [r] = stoppedQuietly t)
      ∧ (s.path.state = .run ∨ s.path.state = .decide → (r.kind = .tableFull → s.path.state = .run) → FirstJam s →
          JamRoom s → s.raiseJams [r] = stoppedFor s r)
      ∧ (s.path.state = .stopping → s.raiseJams [r] = t)
      ∧ (s.path.state = .runout → s.prof.escalation = .fold → s.raiseJams [r] = stoppedQuietly t)
      ∧ (s.path.state = .runout → s.prof.escalation = .lockout → s.census = none →
          let entry (tag : SheetTag) (fate : Fate) (lead trail : Nat) : CensusEntry :=
            { tag := tag, fate := fate, leadIndex := lead, trailIndex := trail,
              jamFlag := t.jam.capture.bind (fun c => c.sheetId) == some tag.sheetId }
          let census : Census :=
            { header :=
                { epoch := s.path.epoch, rank := s.prof.rank, cause := t.jam.capture.map fun c => c.cause,
                  kind := t.jam.capture.bind fun c => c.kind, laterSet := t.jam.laterSet,
                  lastDelivered := s.tracker.lastDelivered, covered := s.coveredSet, lockout := true }
              entries :=
                (s.tracker.table.filter fun x =>
                    !((x.phase == .inbound && x.source != .launch)
                      || (x.phase == .outbound && x.taken == some true))).map
                    (fun x =>
                      entry x.tag
                        (match x.phase with
                          | .inbound => .notFed
                          | .resident => .stranded
                          | .outbound => if x.outputBound = some true then .stranded else .unconfirmed)
                        x.leadIndex x.trailIndex)
                  ++ s.tracker.runOut.map fun x => entry x .delivered s.prof.n s.prof.n }
          s.raiseJams [r]
              = { (censusParts census).foldl State.requestCensusPart { t with census := some census } with
                  path := pathIn s .lockout
                  tracker := { s.tracker with table := s.tracker.table.map Record.disarmed } }
            ∧ (t.link.report.length ≤ 4 →
                (s.raiseJams [r]).link =
                  { t.link with
                    report := t.link.report ++ (censusParts census).map fun p => fresh 0 (.census p) }))

end Statements
end

