-- ==== Sys2Proof/Laws/State.lean ====
section
/-! SUPPORT. What each update of the state does to each of its blocks: one lemma per block and update. -/

namespace Sys2Proof.Machine

/-! ## Updates of one block -/

@[simp] theorem State.updWindow_inReset (s : State) (f : WindowUnit → WindowUnit) : (s.updWindow f).inReset = s.inReset := rfl
@[simp] theorem State.updWindow_window (s : State) (f : WindowUnit → WindowUnit) : (s.updWindow f).window = f s.window := rfl
@[simp] theorem State.updWindow_front (s : State) (f : WindowUnit → WindowUnit) : (s.updWindow f).front = s.front := rfl
@[simp] theorem State.updWindow_tracker (s : State) (f : WindowUnit → WindowUnit) : (s.updWindow f).tracker = s.tracker := rfl
@[simp] theorem State.updWindow_jam (s : State) (f : WindowUnit → WindowUnit) : (s.updWindow f).jam = s.jam := rfl
@[simp] theorem State.updWindow_path (s : State) (f : WindowUnit → WindowUnit) : (s.updWindow f).path = s.path := rfl
@[simp] theorem State.updWindow_setup (s : State) (f : WindowUnit → WindowUnit) : (s.updWindow f).setup = s.setup := rfl
@[simp] theorem State.updWindow_census (s : State) (f : WindowUnit → WindowUnit) : (s.updWindow f).census = s.census := rfl
@[simp] theorem State.updWindow_link (s : State) (f : WindowUnit → WindowUnit) : (s.updWindow f).link = s.link := rfl
@[simp] theorem State.updWindow_counters (s : State) (f : WindowUnit → WindowUnit) : (s.updWindow f).counters = s.counters := rfl
@[simp] theorem State.updWindow_eventsDrawn (s : State) (f : WindowUnit → WindowUnit) : (s.updWindow f).eventsDrawn = s.eventsDrawn := rfl
@[simp] theorem State.updWindow_pending (s : State) (f : WindowUnit → WindowUnit) : (s.updWindow f).pending = s.pending := rfl

@[simp] theorem State.updFront_inReset (s : State) (f : FrontEnd → FrontEnd) : (s.updFront f).inReset = s.inReset := rfl
@[simp] theorem State.updFront_window (s : State) (f : FrontEnd → FrontEnd) : (s.updFront f).window = s.window := rfl
@[simp] theorem State.updFront_front (s : State) (f : FrontEnd → FrontEnd) : (s.updFront f).front = f s.front := rfl
@[simp] theorem State.updFront_tracker (s : State) (f : FrontEnd → FrontEnd) : (s.updFront f).tracker = s.tracker := rfl
@[simp] theorem State.updFront_jam (s : State) (f : FrontEnd → FrontEnd) : (s.updFront f).jam = s.jam := rfl
@[simp] theorem State.updFront_path (s : State) (f : FrontEnd → FrontEnd) : (s.updFront f).path = s.path := rfl
@[simp] theorem State.updFront_setup (s : State) (f : FrontEnd → FrontEnd) : (s.updFront f).setup = s.setup := rfl
@[simp] theorem State.updFront_census (s : State) (f : FrontEnd → FrontEnd) : (s.updFront f).census = s.census := rfl
@[simp] theorem State.updFront_link (s : State) (f : FrontEnd → FrontEnd) : (s.updFront f).link = s.link := rfl
@[simp] theorem State.updFront_counters (s : State) (f : FrontEnd → FrontEnd) : (s.updFront f).counters = s.counters := rfl
@[simp] theorem State.updFront_eventsDrawn (s : State) (f : FrontEnd → FrontEnd) : (s.updFront f).eventsDrawn = s.eventsDrawn := rfl
@[simp] theorem State.updFront_pending (s : State) (f : FrontEnd → FrontEnd) : (s.updFront f).pending = s.pending := rfl

@[simp] theorem State.updTracker_inReset (s : State) (f : Tracker → Tracker) : (s.updTracker f).inReset = s.inReset := rfl
@[simp] theorem State.updTracker_window (s : State) (f : Tracker → Tracker) : (s.updTracker f).window = s.window := rfl
@[simp] theorem State.updTracker_front (s : State) (f : Tracker → Tracker) : (s.updTracker f).front = s.front := rfl
@[simp] theorem State.updTracker_tracker (s : State) (f : Tracker → Tracker) : (s.updTracker f).tracker = f s.tracker := rfl
@[simp] theorem State.updTracker_jam (s : State) (f : Tracker → Tracker) : (s.updTracker f).jam = s.jam := rfl
@[simp] theorem State.updTracker_path (s : State) (f : Tracker → Tracker) : (s.updTracker f).path = s.path := rfl
@[simp] theorem State.updTracker_setup (s : State) (f : Tracker → Tracker) : (s.updTracker f).setup = s.setup := rfl
@[simp] theorem State.updTracker_census (s : State) (f : Tracker → Tracker) : (s.updTracker f).census = s.census := rfl
@[simp] theorem State.updTracker_link (s : State) (f : Tracker → Tracker) : (s.updTracker f).link = s.link := rfl
@[simp] theorem State.updTracker_counters (s : State) (f : Tracker → Tracker) : (s.updTracker f).counters = s.counters := rfl
@[simp] theorem State.updTracker_eventsDrawn (s : State) (f : Tracker → Tracker) : (s.updTracker f).eventsDrawn = s.eventsDrawn := rfl
@[simp] theorem State.updTracker_pending (s : State) (f : Tracker → Tracker) : (s.updTracker f).pending = s.pending := rfl

@[simp] theorem State.updJam_inReset (s : State) (f : JamMonitor → JamMonitor) : (s.updJam f).inReset = s.inReset := rfl
@[simp] theorem State.updJam_window (s : State) (f : JamMonitor → JamMonitor) : (s.updJam f).window = s.window := rfl
@[simp] theorem State.updJam_front (s : State) (f : JamMonitor → JamMonitor) : (s.updJam f).front = s.front := rfl
@[simp] theorem State.updJam_tracker (s : State) (f : JamMonitor → JamMonitor) : (s.updJam f).tracker = s.tracker := rfl
@[simp] theorem State.updJam_jam (s : State) (f : JamMonitor → JamMonitor) : (s.updJam f).jam = f s.jam := rfl
@[simp] theorem State.updJam_path (s : State) (f : JamMonitor → JamMonitor) : (s.updJam f).path = s.path := rfl
@[simp] theorem State.updJam_setup (s : State) (f : JamMonitor → JamMonitor) : (s.updJam f).setup = s.setup := rfl
@[simp] theorem State.updJam_census (s : State) (f : JamMonitor → JamMonitor) : (s.updJam f).census = s.census := rfl
@[simp] theorem State.updJam_link (s : State) (f : JamMonitor → JamMonitor) : (s.updJam f).link = s.link := rfl
@[simp] theorem State.updJam_counters (s : State) (f : JamMonitor → JamMonitor) : (s.updJam f).counters = s.counters := rfl
@[simp] theorem State.updJam_eventsDrawn (s : State) (f : JamMonitor → JamMonitor) : (s.updJam f).eventsDrawn = s.eventsDrawn := rfl
@[simp] theorem State.updJam_pending (s : State) (f : JamMonitor → JamMonitor) : (s.updJam f).pending = s.pending := rfl

@[simp] theorem State.updPath_inReset (s : State) (f : PathController → PathController) : (s.updPath f).inReset = s.inReset := rfl
@[simp] theorem State.updPath_window (s : State) (f : PathController → PathController) : (s.updPath f).window = s.window := rfl
@[simp] theorem State.updPath_front (s : State) (f : PathController → PathController) : (s.updPath f).front = s.front := rfl
@[simp] theorem State.updPath_tracker (s : State) (f : PathController → PathController) : (s.updPath f).tracker = s.tracker := rfl
@[simp] theorem State.updPath_jam (s : State) (f : PathController → PathController) : (s.updPath f).jam = s.jam := rfl
@[simp] theorem State.updPath_path (s : State) (f : PathController → PathController) : (s.updPath f).path = f s.path := rfl
@[simp] theorem State.updPath_setup (s : State) (f : PathController → PathController) : (s.updPath f).setup = s.setup := rfl
@[simp] theorem State.updPath_census (s : State) (f : PathController → PathController) : (s.updPath f).census = s.census := rfl
@[simp] theorem State.updPath_link (s : State) (f : PathController → PathController) : (s.updPath f).link = s.link := rfl
@[simp] theorem State.updPath_counters (s : State) (f : PathController → PathController) : (s.updPath f).counters = s.counters := rfl
@[simp] theorem State.updPath_eventsDrawn (s : State) (f : PathController → PathController) : (s.updPath f).eventsDrawn = s.eventsDrawn := rfl
@[simp] theorem State.updPath_pending (s : State) (f : PathController → PathController) : (s.updPath f).pending = s.pending := rfl

@[simp] theorem State.updSetup_inReset (s : State) (f : SetupUnit → SetupUnit) : (s.updSetup f).inReset = s.inReset := rfl
@[simp] theorem State.updSetup_window (s : State) (f : SetupUnit → SetupUnit) : (s.updSetup f).window = s.window := rfl
@[simp] theorem State.updSetup_front (s : State) (f : SetupUnit → SetupUnit) : (s.updSetup f).front = s.front := rfl
@[simp] theorem State.updSetup_tracker (s : State) (f : SetupUnit → SetupUnit) : (s.updSetup f).tracker = s.tracker := rfl
@[simp] theorem State.updSetup_jam (s : State) (f : SetupUnit → SetupUnit) : (s.updSetup f).jam = s.jam := rfl
@[simp] theorem State.updSetup_path (s : State) (f : SetupUnit → SetupUnit) : (s.updSetup f).path = s.path := rfl
@[simp] theorem State.updSetup_setup (s : State) (f : SetupUnit → SetupUnit) : (s.updSetup f).setup = f s.setup := rfl
@[simp] theorem State.updSetup_census (s : State) (f : SetupUnit → SetupUnit) : (s.updSetup f).census = s.census := rfl
@[simp] theorem State.updSetup_link (s : State) (f : SetupUnit → SetupUnit) : (s.updSetup f).link = s.link := rfl
@[simp] theorem State.updSetup_counters (s : State) (f : SetupUnit → SetupUnit) : (s.updSetup f).counters = s.counters := rfl
@[simp] theorem State.updSetup_eventsDrawn (s : State) (f : SetupUnit → SetupUnit) : (s.updSetup f).eventsDrawn = s.eventsDrawn := rfl
@[simp] theorem State.updSetup_pending (s : State) (f : SetupUnit → SetupUnit) : (s.updSetup f).pending = s.pending := rfl

@[simp] theorem State.updLink_inReset (s : State) (f : Link → Link) : (s.updLink f).inReset = s.inReset := rfl
@[simp] theorem State.updLink_window (s : State) (f : Link → Link) : (s.updLink f).window = s.window := rfl
@[simp] theorem State.updLink_front (s : State) (f : Link → Link) : (s.updLink f).front = s.front := rfl
@[simp] theorem State.updLink_tracker (s : State) (f : Link → Link) : (s.updLink f).tracker = s.tracker := rfl
@[simp] theorem State.updLink_jam (s : State) (f : Link → Link) : (s.updLink f).jam = s.jam := rfl
@[simp] theorem State.updLink_path (s : State) (f : Link → Link) : (s.updLink f).path = s.path := rfl
@[simp] theorem State.updLink_setup (s : State) (f : Link → Link) : (s.updLink f).setup = s.setup := rfl
@[simp] theorem State.updLink_census (s : State) (f : Link → Link) : (s.updLink f).census = s.census := rfl
@[simp] theorem State.updLink_link (s : State) (f : Link → Link) : (s.updLink f).link = f s.link := rfl
@[simp] theorem State.updLink_counters (s : State) (f : Link → Link) : (s.updLink f).counters = s.counters := rfl
@[simp] theorem State.updLink_eventsDrawn (s : State) (f : Link → Link) : (s.updLink f).eventsDrawn = s.eventsDrawn := rfl
@[simp] theorem State.updLink_pending (s : State) (f : Link → Link) : (s.updLink f).pending = s.pending := rfl

@[simp] theorem State.updCounters_inReset (s : State) (f : Counters → Counters) : (s.updCounters f).inReset = s.inReset := rfl
@[simp] theorem State.updCounters_window (s : State) (f : Counters → Counters) : (s.updCounters f).window = s.window := rfl
@[simp] theorem State.updCounters_front (s : State) (f : Counters → Counters) : (s.updCounters f).front = s.front := rfl
@[simp] theorem State.updCounters_tracker (s : State) (f : Counters → Counters) : (s.updCounters f).tracker = s.tracker := rfl
@[simp] theorem State.updCounters_jam (s : State) (f : Counters → Counters) : (s.updCounters f).jam = s.jam := rfl
@[simp] theorem State.updCounters_path (s : State) (f : Counters → Counters) : (s.updCounters f).path = s.path := rfl
@[simp] theorem State.updCounters_setup (s : State) (f : Counters → Counters) : (s.updCounters f).setup = s.setup := rfl
@[simp] theorem State.updCounters_census (s : State) (f : Counters → Counters) : (s.updCounters f).census = s.census := rfl
@[simp] theorem State.updCounters_link (s : State) (f : Counters → Counters) : (s.updCounters f).link = s.link := rfl
@[simp] theorem State.updCounters_counters (s : State) (f : Counters → Counters) : (s.updCounters f).counters = f s.counters := rfl
@[simp] theorem State.updCounters_eventsDrawn (s : State) (f : Counters → Counters) : (s.updCounters f).eventsDrawn = s.eventsDrawn := rfl
@[simp] theorem State.updCounters_pending (s : State) (f : Counters → Counters) : (s.updCounters f).pending = s.pending := rfl

@[simp] theorem State.setCensus_inReset (s : State) (c : Option Census) : (s.setCensus c).inReset = s.inReset := rfl
@[simp] theorem State.setCensus_window (s : State) (c : Option Census) : (s.setCensus c).window = s.window := rfl
@[simp] theorem State.setCensus_front (s : State) (c : Option Census) : (s.setCensus c).front = s.front := rfl
@[simp] theorem State.setCensus_tracker (s : State) (c : Option Census) : (s.setCensus c).tracker = s.tracker := rfl
@[simp] theorem State.setCensus_jam (s : State) (c : Option Census) : (s.setCensus c).jam = s.jam := rfl
@[simp] theorem State.setCensus_path (s : State) (c : Option Census) : (s.setCensus c).path = s.path := rfl
@[simp] theorem State.setCensus_setup (s : State) (c : Option Census) : (s.setCensus c).setup = s.setup := rfl
@[simp] theorem State.setCensus_census (s : State) (c : Option Census) : (s.setCensus c).census = c := rfl
@[simp] theorem State.setCensus_link (s : State) (c : Option Census) : (s.setCensus c).link = s.link := rfl
@[simp] theorem State.setCensus_counters (s : State) (c : Option Census) : (s.setCensus c).counters = s.counters := rfl
@[simp] theorem State.setCensus_eventsDrawn (s : State) (c : Option Census) : (s.setCensus c).eventsDrawn = s.eventsDrawn := rfl
@[simp] theorem State.setCensus_pending (s : State) (c : Option Census) : (s.setCensus c).pending = s.pending := rfl

/-! ## Operations that change one block: what they leave alone -/

@[simp] theorem State.updSensor_inReset (s : State) (k : Fin 4) (f : Sensor → Sensor) :
    (s.updSensor k f).inReset = s.inReset := rfl
@[simp] theorem State.updSensor_window (s : State) (k : Fin 4) (f : Sensor → Sensor) :
    (s.updSensor k f).window = s.window := rfl
@[simp] theorem State.updSensor_tracker (s : State) (k : Fin 4) (f : Sensor → Sensor) :
    (s.updSensor k f).tracker = s.tracker := rfl
@[simp] theorem State.updSensor_jam (s : State) (k : Fin 4) (f : Sensor → Sensor) :
    (s.updSensor k f).jam = s.jam := rfl
@[simp] theorem State.updSensor_path (s : State) (k : Fin 4) (f : Sensor → Sensor) :
    (s.updSensor k f).path = s.path := rfl
@[simp] theorem State.updSensor_setup (s : State) (k : Fin 4) (f : Sensor → Sensor) :
    (s.updSensor k f).setup = s.setup := rfl
@[simp] theorem State.updSensor_census (s : State) (k : Fin 4) (f : Sensor → Sensor) :
    (s.updSensor k f).census = s.census := rfl
@[simp] theorem State.updSensor_link (s : State) (k : Fin 4) (f : Sensor → Sensor) :
    (s.updSensor k f).link = s.link := rfl
@[simp] theorem State.updSensor_counters (s : State) (k : Fin 4) (f : Sensor → Sensor) :
    (s.updSensor k f).counters = s.counters := rfl
@[simp] theorem State.updSensor_eventsDrawn (s : State) (k : Fin 4) (f : Sensor → Sensor) :
    (s.updSensor k f).eventsDrawn = s.eventsDrawn := rfl
@[simp] theorem State.updSensor_pending (s : State) (k : Fin 4) (f : Sensor → Sensor) :
    (s.updSensor k f).pending = s.pending := rfl

@[simp] theorem State.updCover_inReset (s : State) (f : Cover → Cover) :
    (s.updCover f).inReset = s.inReset := rfl
@[simp] theorem State.updCover_window (s : State) (f : Cover → Cover) :
    (s.updCover f).window = s.window := rfl
@[simp] theorem State.updCover_tracker (s : State) (f : Cover → Cover) :
    (s.updCover f).tracker = s.tracker := rfl
@[simp] theorem State.updCover_jam (s : State) (f : Cover → Cover) :
    (s.updCover f).jam = s.jam := rfl
@[simp] theorem State.updCover_path (s : State) (f : Cover → Cover) :
    (s.updCover f).path = s.path := rfl
@[simp] theorem State.updCover_setup (s : State) (f : Cover → Cover) :
    (s.updCover f).setup = s.setup := rfl
@[simp] theorem State.updCover_census (s : State) (f : Cover → Cover) :
    (s.updCover f).census = s.census := rfl
@[simp] theorem State.updCover_link (s : State) (f : Cover → Cover) :
    (s.updCover f).link = s.link := rfl
@[simp] theorem State.updCover_counters (s : State) (f : Cover → Cover) :
    (s.updCover f).counters = s.counters := rfl
@[simp] theorem State.updCover_eventsDrawn (s : State) (f : Cover → Cover) :
    (s.updCover f).eventsDrawn = s.eventsDrawn := rfl
@[simp] theorem State.updCover_pending (s : State) (f : Cover → Cover) :
    (s.updCover f).pending = s.pending := rfl

@[simp] theorem State.setPin_inReset (s : State) (k : Fin 4) (l : Level) :
    (s.setPin k l).inReset = s.inReset := rfl
@[simp] theorem State.setPin_window (s : State) (k : Fin 4) (l : Level) :
    (s.setPin k l).window = s.window := rfl
@[simp] theorem State.setPin_tracker (s : State) (k : Fin 4) (l : Level) :
    (s.setPin k l).tracker = s.tracker := rfl
@[simp] theorem State.setPin_jam (s : State) (k : Fin 4) (l : Level) :
    (s.setPin k l).jam = s.jam := rfl
@[simp] theorem State.setPin_path (s : State) (k : Fin 4) (l : Level) :
    (s.setPin k l).path = s.path := rfl
@[simp] theorem State.setPin_setup (s : State) (k : Fin 4) (l : Level) :
    (s.setPin k l).setup = s.setup := rfl
@[simp] theorem State.setPin_census (s : State) (k : Fin 4) (l : Level) :
    (s.setPin k l).census = s.census := rfl
@[simp] theorem State.setPin_link (s : State) (k : Fin 4) (l : Level) :
    (s.setPin k l).link = s.link := rfl
@[simp] theorem State.setPin_counters (s : State) (k : Fin 4) (l : Level) :
    (s.setPin k l).counters = s.counters := rfl
@[simp] theorem State.setPin_eventsDrawn (s : State) (k : Fin 4) (l : Level) :
    (s.setPin k l).eventsDrawn = s.eventsDrawn := rfl
@[simp] theorem State.setPin_pending (s : State) (k : Fin 4) (l : Level) :
    (s.setPin k l).pending = s.pending := rfl

@[simp] theorem State.follow_inReset (s : State) (k : Fin 4) (l : Level) :
    (s.follow k l).inReset = s.inReset := rfl
@[simp] theorem State.follow_window (s : State) (k : Fin 4) (l : Level) :
    (s.follow k l).window = s.window := rfl
@[simp] theorem State.follow_tracker (s : State) (k : Fin 4) (l : Level) :
    (s.follow k l).tracker = s.tracker := rfl
@[simp] theorem State.follow_jam (s : State) (k : Fin 4) (l : Level) :
    (s.follow k l).jam = s.jam := rfl
@[simp] theorem State.follow_path (s : State) (k : Fin 4) (l : Level) :
    (s.follow k l).path = s.path := rfl
@[simp] theorem State.follow_setup (s : State) (k : Fin 4) (l : Level) :
    (s.follow k l).setup = s.setup := rfl
@[simp] theorem State.follow_census (s : State) (k : Fin 4) (l : Level) :
    (s.follow k l).census = s.census := rfl
@[simp] theorem State.follow_link (s : State) (k : Fin 4) (l : Level) :
    (s.follow k l).link = s.link := rfl
@[simp] theorem State.follow_counters (s : State) (k : Fin 4) (l : Level) :
    (s.follow k l).counters = s.counters := rfl
@[simp] theorem State.follow_eventsDrawn (s : State) (k : Fin 4) (l : Level) :
    (s.follow k l).eventsDrawn = s.eventsDrawn := rfl
@[simp] theorem State.follow_pending (s : State) (k : Fin 4) (l : Level) :
    (s.follow k l).pending = s.pending := rfl

@[simp] theorem State.updTable_inReset (s : State) (f : List Record → List Record) :
    (s.updTable f).inReset = s.inReset := rfl
@[simp] theorem State.updTable_window (s : State) (f : List Record → List Record) :
    (s.updTable f).window = s.window := rfl
@[simp] theorem State.updTable_front (s : State) (f : List Record → List Record) :
    (s.updTable f).front = s.front := rfl
@[simp] theorem State.updTable_jam (s : State) (f : List Record → List Record) :
    (s.updTable f).jam = s.jam := rfl
@[simp] theorem State.updTable_path (s : State) (f : List Record → List Record) :
    (s.updTable f).path = s.path := rfl
@[simp] theorem State.updTable_setup (s : State) (f : List Record → List Record) :
    (s.updTable f).setup = s.setup := rfl
@[simp] theorem State.updTable_census (s : State) (f : List Record → List Record) :
    (s.updTable f).census = s.census := rfl
@[simp] theorem State.updTable_link (s : State) (f : List Record → List Record) :
    (s.updTable f).link = s.link := rfl
@[simp] theorem State.updTable_counters (s : State) (f : List Record → List Record) :
    (s.updTable f).counters = s.counters := rfl
@[simp] theorem State.updTable_eventsDrawn (s : State) (f : List Record → List Record) :
    (s.updTable f).eventsDrawn = s.eventsDrawn := rfl
@[simp] theorem State.updTable_pending (s : State) (f : List Record → List Record) :
    (s.updTable f).pending = s.pending := rfl

@[simp] theorem State.setRosterEntry_inReset (s : State) (n : Nat) (e : RosterEntry) :
    (s.setRosterEntry n e).inReset = s.inReset := rfl
@[simp] theorem State.setRosterEntry_window (s : State) (n : Nat) (e : RosterEntry) :
    (s.setRosterEntry n e).window = s.window := rfl
@[simp] theorem State.setRosterEntry_front (s : State) (n : Nat) (e : RosterEntry) :
    (s.setRosterEntry n e).front = s.front := rfl
@[simp] theorem State.setRosterEntry_tracker (s : State) (n : Nat) (e : RosterEntry) :
    (s.setRosterEntry n e).tracker = s.tracker := rfl
@[simp] theorem State.setRosterEntry_jam (s : State) (n : Nat) (e : RosterEntry) :
    (s.setRosterEntry n e).jam = s.jam := rfl
@[simp] theorem State.setRosterEntry_path (s : State) (n : Nat) (e : RosterEntry) :
    (s.setRosterEntry n e).path = s.path := rfl
@[simp] theorem State.setRosterEntry_census (s : State) (n : Nat) (e : RosterEntry) :
    (s.setRosterEntry n e).census = s.census := rfl
@[simp] theorem State.setRosterEntry_link (s : State) (n : Nat) (e : RosterEntry) :
    (s.setRosterEntry n e).link = s.link := rfl
@[simp] theorem State.setRosterEntry_counters (s : State) (n : Nat) (e : RosterEntry) :
    (s.setRosterEntry n e).counters = s.counters := rfl
@[simp] theorem State.setRosterEntry_eventsDrawn (s : State) (n : Nat) (e : RosterEntry) :
    (s.setRosterEntry n e).eventsDrawn = s.eventsDrawn := rfl
@[simp] theorem State.setRosterEntry_pending (s : State) (n : Nat) (e : RosterEntry) :
    (s.setRosterEntry n e).pending = s.pending := rfl

@[simp] theorem State.countBy_inReset (s : State) (c : Counter) (n : Nat) :
    (s.countBy c n).inReset = s.inReset := rfl
@[simp] theorem State.countBy_window (s : State) (c : Counter) (n : Nat) :
    (s.countBy c n).window = s.window := rfl
@[simp] theorem State.countBy_front (s : State) (c : Counter) (n : Nat) :
    (s.countBy c n).front = s.front := rfl
@[simp] theorem State.countBy_tracker (s : State) (c : Counter) (n : Nat) :
    (s.countBy c n).tracker = s.tracker := rfl
@[simp] theorem State.countBy_jam (s : State) (c : Counter) (n : Nat) :
    (s.countBy c n).jam = s.jam := rfl
@[simp] theorem State.countBy_path (s : State) (c : Counter) (n : Nat) :
    (s.countBy c n).path = s.path := rfl
@[simp] theorem State.countBy_setup (s : State) (c : Counter) (n : Nat) :
    (s.countBy c n).setup = s.setup := rfl
@[simp] theorem State.countBy_census (s : State) (c : Counter) (n : Nat) :
    (s.countBy c n).census = s.census := rfl
@[simp] theorem State.countBy_link (s : State) (c : Counter) (n : Nat) :
    (s.countBy c n).link = s.link := rfl
@[simp] theorem State.countBy_eventsDrawn (s : State) (c : Counter) (n : Nat) :
    (s.countBy c n).eventsDrawn = s.eventsDrawn := rfl
@[simp] theorem State.countBy_pending (s : State) (c : Counter) (n : Nat) :
    (s.countBy c n).pending = s.pending := rfl

@[simp] theorem State.count_inReset (s : State) (c : Counter) :
    (s.count c).inReset = s.inReset := rfl
@[simp] theorem State.count_window (s : State) (c : Counter) :
    (s.count c).window = s.window := rfl
@[simp] theorem State.count_front (s : State) (c : Counter) :
    (s.count c).front = s.front := rfl
@[simp] theorem State.count_tracker (s : State) (c : Counter) :
    (s.count c).tracker = s.tracker := rfl
@[simp] theorem State.count_jam (s : State) (c : Counter) :
    (s.count c).jam = s.jam := rfl
@[simp] theorem State.count_path (s : State) (c : Counter) :
    (s.count c).path = s.path := rfl
@[simp] theorem State.count_setup (s : State) (c : Counter) :
    (s.count c).setup = s.setup := rfl
@[simp] theorem State.count_census (s : State) (c : Counter) :
    (s.count c).census = s.census := rfl
@[simp] theorem State.count_link (s : State) (c : Counter) :
    (s.count c).link = s.link := rfl
@[simp] theorem State.count_eventsDrawn (s : State) (c : Counter) :
    (s.count c).eventsDrawn = s.eventsDrawn := rfl
@[simp] theorem State.count_pending (s : State) (c : Counter) :
    (s.count c).pending = s.pending := rfl

@[simp] theorem State.countIf_inReset (s : State) (b : Bool) (c : Counter) :
    (s.countIf b c).inReset = s.inReset := by unfold State.countIf; split <;> rfl
@[simp] theorem State.countIf_window (s : State) (b : Bool) (c : Counter) :
    (s.countIf b c).window = s.window := by unfold State.countIf; split <;> rfl
@[simp] theorem State.countIf_front (s : State) (b : Bool) (c : Counter) :
    (s.countIf b c).front = s.front := by unfold State.countIf; split <;> rfl
@[simp] theorem State.countIf_tracker (s : State) (b : Bool) (c : Counter) :
    (s.countIf b c).tracker = s.tracker := by unfold State.countIf; split <;> rfl
@[simp] theorem State.countIf_jam (s : State) (b : Bool) (c : Counter) :
    (s.countIf b c).jam = s.jam := by unfold State.countIf; split <;> rfl
@[simp] theorem State.countIf_path (s : State) (b : Bool) (c : Counter) :
    (s.countIf b c).path = s.path := by unfold State.countIf; split <;> rfl
@[simp] theorem State.countIf_setup (s : State) (b : Bool) (c : Counter) :
    (s.countIf b c).setup = s.setup := by unfold State.countIf; split <;> rfl
@[simp] theorem State.countIf_census (s : State) (b : Bool) (c : Counter) :
    (s.countIf b c).census = s.census := by unfold State.countIf; split <;> rfl
@[simp] theorem State.countIf_link (s : State) (b : Bool) (c : Counter) :
    (s.countIf b c).link = s.link := by unfold State.countIf; split <;> rfl
@[simp] theorem State.countIf_eventsDrawn (s : State) (b : Bool) (c : Counter) :
    (s.countIf b c).eventsDrawn = s.eventsDrawn := by unfold State.countIf; split <;> rfl
@[simp] theorem State.countIf_pending (s : State) (b : Bool) (c : Counter) :
    (s.countIf b c).pending = s.pending := by unfold State.countIf; split <;> rfl

@[simp] theorem State.append_inReset (s : State) (c : QueueClass) (e : Entry) :
    (s.append c e).inReset = s.inReset := rfl
@[simp] theorem State.append_window (s : State) (c : QueueClass) (e : Entry) :
    (s.append c e).window = s.window := rfl
@[simp] theorem State.append_front (s : State) (c : QueueClass) (e : Entry) :
    (s.append c e).front = s.front := rfl
@[simp] theorem State.append_tracker (s : State) (c : QueueClass) (e : Entry) :
    (s.append c e).tracker = s.tracker := rfl
@[simp] theorem State.append_jam (s : State) (c : QueueClass) (e : Entry) :
    (s.append c e).jam = s.jam := rfl
@[simp] theorem State.append_path (s : State) (c : QueueClass) (e : Entry) :
    (s.append c e).path = s.path := rfl
@[simp] theorem State.append_setup (s : State) (c : QueueClass) (e : Entry) :
    (s.append c e).setup = s.setup := rfl
@[simp] theorem State.append_census (s : State) (c : QueueClass) (e : Entry) :
    (s.append c e).census = s.census := rfl
@[simp] theorem State.append_counters (s : State) (c : QueueClass) (e : Entry) :
    (s.append c e).counters = s.counters := rfl
@[simp] theorem State.append_eventsDrawn (s : State) (c : QueueClass) (e : Entry) :
    (s.append c e).eventsDrawn = s.eventsDrawn := rfl
@[simp] theorem State.append_pending (s : State) (c : QueueClass) (e : Entry) :
    (s.append c e).pending = s.pending := rfl

@[simp] theorem State.flushHandoffs_inReset (s : State) :
    (s.flushHandoffs).inReset = s.inReset := rfl
@[simp] theorem State.flushHandoffs_window (s : State) :
    (s.flushHandoffs).window = s.window := rfl
@[simp] theorem State.flushHandoffs_front (s : State) :
    (s.flushHandoffs).front = s.front := rfl
@[simp] theorem State.flushHandoffs_tracker (s : State) :
    (s.flushHandoffs).tracker = s.tracker := rfl
@[simp] theorem State.flushHandoffs_jam (s : State) :
    (s.flushHandoffs).jam = s.jam := rfl
@[simp] theorem State.flushHandoffs_path (s : State) :
    (s.flushHandoffs).path = s.path := rfl
@[simp] theorem State.flushHandoffs_setup (s : State) :
    (s.flushHandoffs).setup = s.setup := rfl
@[simp] theorem State.flushHandoffs_census (s : State) :
    (s.flushHandoffs).census = s.census := rfl
@[simp] theorem State.flushHandoffs_counters (s : State) :
    (s.flushHandoffs).counters = s.counters := rfl
@[simp] theorem State.flushHandoffs_eventsDrawn (s : State) :
    (s.flushHandoffs).eventsDrawn = s.eventsDrawn := rfl
@[simp] theorem State.flushHandoffs_pending (s : State) :
    (s.flushHandoffs).pending = s.pending := rfl

@[simp] theorem State.frameEnded_inReset (s : State) :
    (s.frameEnded).inReset = s.inReset := rfl
@[simp] theorem State.frameEnded_window (s : State) :
    (s.frameEnded).window = s.window := rfl
@[simp] theorem State.frameEnded_front (s : State) :
    (s.frameEnded).front = s.front := rfl
@[simp] theorem State.frameEnded_tracker (s : State) :
    (s.frameEnded).tracker = s.tracker := rfl
@[simp] theorem State.frameEnded_jam (s : State) :
    (s.frameEnded).jam = s.jam := rfl
@[simp] theorem State.frameEnded_path (s : State) :
    (s.frameEnded).path = s.path := rfl
@[simp] theorem State.frameEnded_setup (s : State) :
    (s.frameEnded).setup = s.setup := rfl
@[simp] theorem State.frameEnded_census (s : State) :
    (s.frameEnded).census = s.census := rfl
@[simp] theorem State.frameEnded_counters (s : State) :
    (s.frameEnded).counters = s.counters := rfl
@[simp] theorem State.frameEnded_eventsDrawn (s : State) :
    (s.frameEnded).eventsDrawn = s.eventsDrawn := rfl
@[simp] theorem State.frameEnded_pending (s : State) :
    (s.frameEnded).pending = s.pending := rfl

@[simp] theorem State.toState_inReset (s : State) (st : PathState) :
    (s.toState st).inReset = s.inReset := rfl
@[simp] theorem State.toState_window (s : State) (st : PathState) :
    (s.toState st).window = s.window := rfl
@[simp] theorem State.toState_front (s : State) (st : PathState) :
    (s.toState st).front = s.front := rfl
@[simp] theorem State.toState_tracker (s : State) (st : PathState) :
    (s.toState st).tracker = s.tracker := rfl
@[simp] theorem State.toState_jam (s : State) (st : PathState) :
    (s.toState st).jam = s.jam := rfl
@[simp] theorem State.toState_setup (s : State) (st : PathState) :
    (s.toState st).setup = s.setup := rfl
@[simp] theorem State.toState_census (s : State) (st : PathState) :
    (s.toState st).census = s.census := rfl
@[simp] theorem State.toState_link (s : State) (st : PathState) :
    (s.toState st).link = s.link := rfl
@[simp] theorem State.toState_counters (s : State) (st : PathState) :
    (s.toState st).counters = s.counters := rfl
@[simp] theorem State.toState_eventsDrawn (s : State) (st : PathState) :
    (s.toState st).eventsDrawn = s.eventsDrawn := rfl
@[simp] theorem State.toState_pending (s : State) (st : PathState) :
    (s.toState st).pending = s.pending := rfl

@[simp] theorem State.tableEmptySignal_inReset (s : State) :
    (s.tableEmptySignal).inReset = s.inReset := by unfold State.tableEmptySignal; split <;> rfl
@[simp] theorem State.tableEmptySignal_front (s : State) :
    (s.tableEmptySignal).front = s.front := by unfold State.tableEmptySignal; split <;> rfl
@[simp] theorem State.tableEmptySignal_tracker (s : State) :
    (s.tableEmptySignal).tracker = s.tracker := by unfold State.tableEmptySignal; split <;> rfl
@[simp] theorem State.tableEmptySignal_jam (s : State) :
    (s.tableEmptySignal).jam = s.jam := by unfold State.tableEmptySignal; split <;> rfl
@[simp] theorem State.tableEmptySignal_path (s : State) :
    (s.tableEmptySignal).path = s.path := by unfold State.tableEmptySignal; split <;> rfl
@[simp] theorem State.tableEmptySignal_setup (s : State) :
    (s.tableEmptySignal).setup = s.setup := by unfold State.tableEmptySignal; split <;> rfl
@[simp] theorem State.tableEmptySignal_census (s : State) :
    (s.tableEmptySignal).census = s.census := by unfold State.tableEmptySignal; split <;> rfl
@[simp] theorem State.tableEmptySignal_link (s : State) :
    (s.tableEmptySignal).link = s.link := by unfold State.tableEmptySignal; split <;> rfl
@[simp] theorem State.tableEmptySignal_counters (s : State) :
    (s.tableEmptySignal).counters = s.counters := by unfold State.tableEmptySignal; split <;> rfl
@[simp] theorem State.tableEmptySignal_eventsDrawn (s : State) :
    (s.tableEmptySignal).eventsDrawn = s.eventsDrawn := by unfold State.tableEmptySignal; split <;> rfl
@[simp] theorem State.tableEmptySignal_pending (s : State) :
    (s.tableEmptySignal).pending = s.pending := by unfold State.tableEmptySignal; split <;> rfl

@[simp] theorem State.judgeGate_inReset (s : State) :
    (s.judgeGate).inReset = s.inReset := by unfold State.judgeGate; split <;> rfl
@[simp] theorem State.judgeGate_window (s : State) :
    (s.judgeGate).window = s.window := by unfold State.judgeGate; split <;> rfl
@[simp] theorem State.judgeGate_front (s : State) :
    (s.judgeGate).front = s.front := by unfold State.judgeGate; split <;> rfl
@[simp] theorem State.judgeGate_jam (s : State) :
    (s.judgeGate).jam = s.jam := by unfold State.judgeGate; split <;> rfl
@[simp] theorem State.judgeGate_path (s : State) :
    (s.judgeGate).path = s.path := by unfold State.judgeGate; split <;> rfl
@[simp] theorem State.judgeGate_setup (s : State) :
    (s.judgeGate).setup = s.setup := by unfold State.judgeGate; split <;> rfl
@[simp] theorem State.judgeGate_census (s : State) :
    (s.judgeGate).census = s.census := by unfold State.judgeGate; split <;> rfl
@[simp] theorem State.judgeGate_link (s : State) :
    (s.judgeGate).link = s.link := by unfold State.judgeGate; split <;> rfl
@[simp] theorem State.judgeGate_counters (s : State) :
    (s.judgeGate).counters = s.counters := by unfold State.judgeGate; split <;> rfl
@[simp] theorem State.judgeGate_eventsDrawn (s : State) :
    (s.judgeGate).eventsDrawn = s.eventsDrawn := by unfold State.judgeGate; split <;> rfl
@[simp] theorem State.judgeGate_pending (s : State) :
    (s.judgeGate).pending = s.pending := by unfold State.judgeGate; split <;> rfl

@[simp] theorem State.passTime_inReset (s : State) :
    (s.passTime).inReset = s.inReset := rfl
@[simp] theorem State.passTime_front (s : State) :
    (s.passTime).front = s.front := rfl
@[simp] theorem State.passTime_tracker (s : State) :
    (s.passTime).tracker = s.tracker := rfl
@[simp] theorem State.passTime_jam (s : State) :
    (s.passTime).jam = s.jam := rfl
@[simp] theorem State.passTime_path (s : State) :
    (s.passTime).path = s.path := rfl
@[simp] theorem State.passTime_setup (s : State) :
    (s.passTime).setup = s.setup := rfl
@[simp] theorem State.passTime_census (s : State) :
    (s.passTime).census = s.census := rfl
@[simp] theorem State.passTime_counters (s : State) :
    (s.passTime).counters = s.counters := rfl
@[simp] theorem State.passTime_eventsDrawn (s : State) :
    (s.passTime).eventsDrawn = s.eventsDrawn := rfl
@[simp] theorem State.passTime_pending (s : State) :
    (s.passTime).pending = s.pending := rfl
@[simp] theorem State.passTime_window (s : State) :
    (s.passTime).window = s.window.advance s.periodsLeft := rfl
@[simp] theorem State.passTime_link (s : State) :
    (s.passTime).link = s.link.advance s.periodsLeft := rfl

@[simp] theorem State.letBy_inReset (s : State) :
    (s.letBy).inReset = s.inReset := rfl
@[simp] theorem State.letBy_window (s : State) :
    (s.letBy).window = s.window := rfl
@[simp] theorem State.letBy_front (s : State) :
    (s.letBy).front = s.front := rfl
@[simp] theorem State.letBy_tracker (s : State) :
    (s.letBy).tracker = s.tracker := rfl
@[simp] theorem State.letBy_jam (s : State) :
    (s.letBy).jam = s.jam := rfl
@[simp] theorem State.letBy_path (s : State) :
    (s.letBy).path = s.path := rfl
@[simp] theorem State.letBy_setup (s : State) :
    (s.letBy).setup = s.setup := rfl
@[simp] theorem State.letBy_census (s : State) :
    (s.letBy).census = s.census := rfl
@[simp] theorem State.letBy_counters (s : State) :
    (s.letBy).counters = s.counters := rfl
@[simp] theorem State.letBy_eventsDrawn (s : State) :
    (s.letBy).eventsDrawn = s.eventsDrawn := rfl
@[simp] theorem State.letBy_pending (s : State) :
    (s.letBy).pending = s.pending := rfl
@[simp] theorem State.letBy_link (s : State) :
    (s.letBy).link = s.link.seen := rfl

@[simp] theorem State.keepCollecting_inReset (s : State) (held : List Byte) :
    (s.keepCollecting held).inReset = s.inReset := rfl
@[simp] theorem State.keepCollecting_window (s : State) (held : List Byte) :
    (s.keepCollecting held).window = s.window := rfl
@[simp] theorem State.keepCollecting_front (s : State) (held : List Byte) :
    (s.keepCollecting held).front = s.front := rfl
@[simp] theorem State.keepCollecting_tracker (s : State) (held : List Byte) :
    (s.keepCollecting held).tracker = s.tracker := rfl
@[simp] theorem State.keepCollecting_jam (s : State) (held : List Byte) :
    (s.keepCollecting held).jam = s.jam := rfl
@[simp] theorem State.keepCollecting_path (s : State) (held : List Byte) :
    (s.keepCollecting held).path = s.path := rfl
@[simp] theorem State.keepCollecting_setup (s : State) (held : List Byte) :
    (s.keepCollecting held).setup = s.setup := rfl
@[simp] theorem State.keepCollecting_census (s : State) (held : List Byte) :
    (s.keepCollecting held).census = s.census := rfl
@[simp] theorem State.keepCollecting_counters (s : State) (held : List Byte) :
    (s.keepCollecting held).counters = s.counters := rfl
@[simp] theorem State.keepCollecting_eventsDrawn (s : State) (held : List Byte) :
    (s.keepCollecting held).eventsDrawn = s.eventsDrawn := rfl
@[simp] theorem State.keepCollecting_pending (s : State) (held : List Byte) :
    (s.keepCollecting held).pending = s.pending := rfl
@[simp] theorem State.keepCollecting_link (s : State) (held : List Byte) :
    (s.keepCollecting held).link = { s.link.seen with collecting := held } := rfl

@[simp] theorem State.beginFrame_inReset (s : State) (v : Byte) :
    (s.beginFrame v).inReset = s.inReset := rfl
@[simp] theorem State.beginFrame_window (s : State) (v : Byte) :
    (s.beginFrame v).window = s.window := rfl
@[simp] theorem State.beginFrame_front (s : State) (v : Byte) :
    (s.beginFrame v).front = s.front := rfl
@[simp] theorem State.beginFrame_tracker (s : State) (v : Byte) :
    (s.beginFrame v).tracker = s.tracker := rfl
@[simp] theorem State.beginFrame_jam (s : State) (v : Byte) :
    (s.beginFrame v).jam = s.jam := rfl
@[simp] theorem State.beginFrame_path (s : State) (v : Byte) :
    (s.beginFrame v).path = s.path := rfl
@[simp] theorem State.beginFrame_setup (s : State) (v : Byte) :
    (s.beginFrame v).setup = s.setup := rfl
@[simp] theorem State.beginFrame_census (s : State) (v : Byte) :
    (s.beginFrame v).census = s.census := rfl
@[simp] theorem State.beginFrame_counters (s : State) (v : Byte) :
    (s.beginFrame v).counters = s.counters := rfl
@[simp] theorem State.beginFrame_eventsDrawn (s : State) (v : Byte) :
    (s.beginFrame v).eventsDrawn = s.eventsDrawn := rfl
@[simp] theorem State.beginFrame_pending (s : State) (v : Byte) :
    (s.beginFrame v).pending = s.pending := rfl

@[simp] theorem State.beginAttempt_inReset (s : State) (own : Nat) (c : QueueClass) (e : Entry) :
    (s.beginAttempt own c e).inReset = s.inReset := rfl
@[simp] theorem State.beginAttempt_window (s : State) (own : Nat) (c : QueueClass) (e : Entry) :
    (s.beginAttempt own c e).window = s.window := rfl
@[simp] theorem State.beginAttempt_front (s : State) (own : Nat) (c : QueueClass) (e : Entry) :
    (s.beginAttempt own c e).front = s.front := rfl
@[simp] theorem State.beginAttempt_tracker (s : State) (own : Nat) (c : QueueClass) (e : Entry) :
    (s.beginAttempt own c e).tracker = s.tracker := rfl
@[simp] theorem State.beginAttempt_jam (s : State) (own : Nat) (c : QueueClass) (e : Entry) :
    (s.beginAttempt own c e).jam = s.jam := rfl
@[simp] theorem State.beginAttempt_path (s : State) (own : Nat) (c : QueueClass) (e : Entry) :
    (s.beginAttempt own c e).path = s.path := rfl
@[simp] theorem State.beginAttempt_setup (s : State) (own : Nat) (c : QueueClass) (e : Entry) :
    (s.beginAttempt own c e).setup = s.setup := rfl
@[simp] theorem State.beginAttempt_census (s : State) (own : Nat) (c : QueueClass) (e : Entry) :
    (s.beginAttempt own c e).census = s.census := rfl
@[simp] theorem State.beginAttempt_counters (s : State) (own : Nat) (c : QueueClass) (e : Entry) :
    (s.beginAttempt own c e).counters = s.counters := rfl
@[simp] theorem State.beginAttempt_eventsDrawn (s : State) (own : Nat) (c : QueueClass) (e : Entry) :
    (s.beginAttempt own c e).eventsDrawn = s.eventsDrawn := rfl
@[simp] theorem State.beginAttempt_pending (s : State) (own : Nat) (c : QueueClass) (e : Entry) :
    (s.beginAttempt own c e).pending = s.pending := rfl

@[simp] theorem State.endAttempt_inReset (s : State) :
    (s.endAttempt).inReset = s.inReset := rfl
@[simp] theorem State.endAttempt_window (s : State) :
    (s.endAttempt).window = s.window := rfl
@[simp] theorem State.endAttempt_front (s : State) :
    (s.endAttempt).front = s.front := rfl
@[simp] theorem State.endAttempt_tracker (s : State) :
    (s.endAttempt).tracker = s.tracker := rfl
@[simp] theorem State.endAttempt_jam (s : State) :
    (s.endAttempt).jam = s.jam := rfl
@[simp] theorem State.endAttempt_path (s : State) :
    (s.endAttempt).path = s.path := rfl
@[simp] theorem State.endAttempt_setup (s : State) :
    (s.endAttempt).setup = s.setup := rfl
@[simp] theorem State.endAttempt_census (s : State) :
    (s.endAttempt).census = s.census := rfl
@[simp] theorem State.endAttempt_counters (s : State) :
    (s.endAttempt).counters = s.counters := rfl
@[simp] theorem State.endAttempt_eventsDrawn (s : State) :
    (s.endAttempt).eventsDrawn = s.eventsDrawn := rfl
@[simp] theorem State.endAttempt_pending (s : State) :
    (s.endAttempt).pending = s.pending := rfl
@[simp] theorem State.endAttempt_link (s : State) :
    (s.endAttempt).link = { s.link.seen with attempt := none, txEnable := false } := rfl

@[simp] theorem State.abandonFrame_inReset (s : State) (f : ReceiveFault) :
    (s.abandonFrame f).inReset = s.inReset := by cases f <;> rfl
@[simp] theorem State.abandonFrame_window (s : State) (f : ReceiveFault) :
    (s.abandonFrame f).window = s.window := by cases f <;> rfl
@[simp] theorem State.abandonFrame_front (s : State) (f : ReceiveFault) :
    (s.abandonFrame f).front = s.front := by cases f <;> rfl
@[simp] theorem State.abandonFrame_tracker (s : State) (f : ReceiveFault) :
    (s.abandonFrame f).tracker = s.tracker := by cases f <;> rfl
@[simp] theorem State.abandonFrame_jam (s : State) (f : ReceiveFault) :
    (s.abandonFrame f).jam = s.jam := by cases f <;> rfl
@[simp] theorem State.abandonFrame_path (s : State) (f : ReceiveFault) :
    (s.abandonFrame f).path = s.path := by cases f <;> rfl
@[simp] theorem State.abandonFrame_setup (s : State) (f : ReceiveFault) :
    (s.abandonFrame f).setup = s.setup := by cases f <;> rfl
@[simp] theorem State.abandonFrame_census (s : State) (f : ReceiveFault) :
    (s.abandonFrame f).census = s.census := by cases f <;> rfl
@[simp] theorem State.abandonFrame_eventsDrawn (s : State) (f : ReceiveFault) :
    (s.abandonFrame f).eventsDrawn = s.eventsDrawn := by cases f <;> rfl
@[simp] theorem State.abandonFrame_pending (s : State) (f : ReceiveFault) :
    (s.abandonFrame f).pending = s.pending := by cases f <;> rfl

@[simp] theorem State.abandonFrame_counters (s : State) (f : ReceiveFault) :
    (s.abandonFrame f).counters = (s.count .receiveError).counters := by cases f <;> rfl

@[simp] theorem Link.seen_urgent (l : Link) : l.seen.urgent = l.urgent := rfl
@[simp] theorem Link.seen_path (l : Link) : l.seen.path = l.path := rfl
@[simp] theorem Link.seen_report (l : Link) : l.seen.report = l.report := rfl
@[simp] theorem Link.seen_queue (l : Link) (c : QueueClass) : l.seen.queue c = l.queue c := by cases c <;> rfl
@[simp] theorem Link.seen_attempt (l : Link) : l.seen.attempt = l.attempt := rfl
@[simp] theorem Link.seen_txEnable (l : Link) : l.seen.txEnable = l.txEnable := rfl
@[simp] theorem Link.seen_assembler (l : Link) : l.seen.assembler = l.assembler := rfl
@[simp] theorem Link.seen_collecting (l : Link) : l.seen.collecting = l.collecting := rfl
@[simp] theorem Link.seen_idleCount (l : Link) : l.seen.idleCount = 0 := rfl
@[simp] theorem Link.seen_charClock (l : Link) : l.seen.charClock = 0 := rfl

@[simp] theorem State.frameEnded_link (s : State) :
    (s.frameEnded).link = { s.link.seen with assembler := .waiting, collecting := [] } := rfl

@[simp] theorem State.drawOrder_inReset (s : State) :
    (s.drawOrder).inReset = s.inReset := rfl
@[simp] theorem State.drawOrder_window (s : State) :
    (s.drawOrder).window = s.window := rfl
@[simp] theorem State.drawOrder_front (s : State) :
    (s.drawOrder).front = s.front := rfl
@[simp] theorem State.drawOrder_tracker (s : State) :
    (s.drawOrder).tracker = s.tracker := rfl
@[simp] theorem State.drawOrder_jam (s : State) :
    (s.drawOrder).jam = s.jam := rfl
@[simp] theorem State.drawOrder_path (s : State) :
    (s.drawOrder).path = s.path := rfl
@[simp] theorem State.drawOrder_setup (s : State) :
    (s.drawOrder).setup = s.setup := rfl
@[simp] theorem State.drawOrder_census (s : State) :
    (s.drawOrder).census = s.census := rfl
@[simp] theorem State.drawOrder_link (s : State) :
    (s.drawOrder).link = s.link := rfl
@[simp] theorem State.drawOrder_counters (s : State) :
    (s.drawOrder).counters = s.counters := rfl
@[simp] theorem State.drawOrder_pending (s : State) :
    (s.drawOrder).pending = s.pending := rfl

@[simp] theorem State.request_inReset (s : State) (c : QueueClass) (d : Nat) (b : Body) :
    (s.request c d b).inReset = s.inReset := by unfold State.request; split <;> [rfl; (split <;> rfl)]
@[simp] theorem State.request_window (s : State) (c : QueueClass) (d : Nat) (b : Body) :
    (s.request c d b).window = s.window := by unfold State.request; split <;> [rfl; (split <;> rfl)]
@[simp] theorem State.request_front (s : State) (c : QueueClass) (d : Nat) (b : Body) :
    (s.request c d b).front = s.front := by unfold State.request; split <;> [rfl; (split <;> rfl)]
@[simp] theorem State.request_tracker (s : State) (c : QueueClass) (d : Nat) (b : Body) :
    (s.request c d b).tracker = s.tracker := by unfold State.request; split <;> [rfl; (split <;> rfl)]
@[simp] theorem State.request_jam (s : State) (c : QueueClass) (d : Nat) (b : Body) :
    (s.request c d b).jam = s.jam := by unfold State.request; split <;> [rfl; (split <;> rfl)]
@[simp] theorem State.request_path (s : State) (c : QueueClass) (d : Nat) (b : Body) :
    (s.request c d b).path = s.path := by unfold State.request; split <;> [rfl; (split <;> rfl)]
@[simp] theorem State.request_setup (s : State) (c : QueueClass) (d : Nat) (b : Body) :
    (s.request c d b).setup = s.setup := by unfold State.request; split <;> [rfl; (split <;> rfl)]
@[simp] theorem State.request_census (s : State) (c : QueueClass) (d : Nat) (b : Body) :
    (s.request c d b).census = s.census := by unfold State.request; split <;> [rfl; (split <;> rfl)]
@[simp] theorem State.request_eventsDrawn (s : State) (c : QueueClass) (d : Nat) (b : Body) :
    (s.request c d b).eventsDrawn = s.eventsDrawn := by unfold State.request; split <;> [rfl; (split <;> rfl)]
@[simp] theorem State.request_pending (s : State) (c : QueueClass) (d : Nat) (b : Body) :
    (s.request c d b).pending = s.pending := by unfold State.request; split <;> [rfl; (split <;> rfl)]

@[simp] theorem State.requestReport_inReset (s : State) (d : Nat) (b : Body) :
    (s.requestReport d b).inReset = s.inReset := State.request_inReset s .report d b
@[simp] theorem State.requestReport_window (s : State) (d : Nat) (b : Body) :
    (s.requestReport d b).window = s.window := State.request_window s .report d b
@[simp] theorem State.requestReport_front (s : State) (d : Nat) (b : Body) :
    (s.requestReport d b).front = s.front := State.request_front s .report d b
@[simp] theorem State.requestReport_tracker (s : State) (d : Nat) (b : Body) :
    (s.requestReport d b).tracker = s.tracker := State.request_tracker s .report d b
@[simp] theorem State.requestReport_jam (s : State) (d : Nat) (b : Body) :
    (s.requestReport d b).jam = s.jam := State.request_jam s .report d b
@[simp] theorem State.requestReport_path (s : State) (d : Nat) (b : Body) :
    (s.requestReport d b).path = s.path := State.request_path s .report d b
@[simp] theorem State.requestReport_setup (s : State) (d : Nat) (b : Body) :
    (s.requestReport d b).setup = s.setup := State.request_setup s .report d b
@[simp] theorem State.requestReport_census (s : State) (d : Nat) (b : Body) :
    (s.requestReport d b).census = s.census := State.request_census s .report d b
@[simp] theorem State.requestReport_eventsDrawn (s : State) (d : Nat) (b : Body) :
    (s.requestReport d b).eventsDrawn = s.eventsDrawn := State.request_eventsDrawn s .report d b
@[simp] theorem State.requestReport_pending (s : State) (d : Nat) (b : Body) :
    (s.requestReport d b).pending = s.pending := State.request_pending s .report d b

@[simp] theorem State.requestCensusPart_inReset (s : State) (p : CensusPart) :
    (s.requestCensusPart p).inReset = s.inReset := by unfold State.requestCensusPart; simp only []; split <;> [rfl; (split <;> [rfl; (split <;> rfl)])]
@[simp] theorem State.requestCensusPart_window (s : State) (p : CensusPart) :
    (s.requestCensusPart p).window = s.window := by unfold State.requestCensusPart; simp only []; split <;> [rfl; (split <;> [rfl; (split <;> rfl)])]
@[simp] theorem State.requestCensusPart_front (s : State) (p : CensusPart) :
    (s.requestCensusPart p).front = s.front := by unfold State.requestCensusPart; simp only []; split <;> [rfl; (split <;> [rfl; (split <;> rfl)])]
@[simp] theorem State.requestCensusPart_tracker (s : State) (p : CensusPart) :
    (s.requestCensusPart p).tracker = s.tracker := by unfold State.requestCensusPart; simp only []; split <;> [rfl; (split <;> [rfl; (split <;> rfl)])]
@[simp] theorem State.requestCensusPart_jam (s : State) (p : CensusPart) :
    (s.requestCensusPart p).jam = s.jam := by unfold State.requestCensusPart; simp only []; split <;> [rfl; (split <;> [rfl; (split <;> rfl)])]
@[simp] theorem State.requestCensusPart_path (s : State) (p : CensusPart) :
    (s.requestCensusPart p).path = s.path := by unfold State.requestCensusPart; simp only []; split <;> [rfl; (split <;> [rfl; (split <;> rfl)])]
@[simp] theorem State.requestCensusPart_setup (s : State) (p : CensusPart) :
    (s.requestCensusPart p).setup = s.setup := by unfold State.requestCensusPart; simp only []; split <;> [rfl; (split <;> [rfl; (split <;> rfl)])]
@[simp] theorem State.requestCensusPart_census (s : State) (p : CensusPart) :
    (s.requestCensusPart p).census = s.census := by unfold State.requestCensusPart; simp only []; split <;> [rfl; (split <;> [rfl; (split <;> rfl)])]
@[simp] theorem State.requestCensusPart_eventsDrawn (s : State) (p : CensusPart) :
    (s.requestCensusPart p).eventsDrawn = s.eventsDrawn := by unfold State.requestCensusPart; simp only []; split <;> [rfl; (split <;> [rfl; (split <;> rfl)])]
@[simp] theorem State.requestCensusPart_pending (s : State) (p : CensusPart) :
    (s.requestCensusPart p).pending = s.pending := by unfold State.requestCensusPart; simp only []; split <;> [rfl; (split <;> [rfl; (split <;> rfl)])]

@[simp] theorem State.requestPath_inReset (s : State) (d : Nat) (b : Body) :
    (s.requestPath d b).1.inReset = s.inReset := by unfold State.requestPath; split <;> [rfl; (split <;> rfl)]
@[simp] theorem State.requestPath_window (s : State) (d : Nat) (b : Body) :
    (s.requestPath d b).1.window = s.window := by unfold State.requestPath; split <;> [rfl; (split <;> rfl)]
@[simp] theorem State.requestPath_front (s : State) (d : Nat) (b : Body) :
    (s.requestPath d b).1.front = s.front := by unfold State.requestPath; split <;> [rfl; (split <;> rfl)]
@[simp] theorem State.requestPath_tracker (s : State) (d : Nat) (b : Body) :
    (s.requestPath d b).1.tracker = s.tracker := by unfold State.requestPath; split <;> [rfl; (split <;> rfl)]
@[simp] theorem State.requestPath_jam (s : State) (d : Nat) (b : Body) :
    (s.requestPath d b).1.jam = s.jam := by unfold State.requestPath; split <;> [rfl; (split <;> rfl)]
@[simp] theorem State.requestPath_path (s : State) (d : Nat) (b : Body) :
    (s.requestPath d b).1.path = s.path := by unfold State.requestPath; split <;> [rfl; (split <;> rfl)]
@[simp] theorem State.requestPath_setup (s : State) (d : Nat) (b : Body) :
    (s.requestPath d b).1.setup = s.setup := by unfold State.requestPath; split <;> [rfl; (split <;> rfl)]
@[simp] theorem State.requestPath_census (s : State) (d : Nat) (b : Body) :
    (s.requestPath d b).1.census = s.census := by unfold State.requestPath; split <;> [rfl; (split <;> rfl)]
@[simp] theorem State.requestPath_counters (s : State) (d : Nat) (b : Body) :
    (s.requestPath d b).1.counters = s.counters := by unfold State.requestPath; split <;> [rfl; (split <;> rfl)]
@[simp] theorem State.requestPath_eventsDrawn (s : State) (d : Nat) (b : Body) :
    (s.requestPath d b).1.eventsDrawn = s.eventsDrawn := by unfold State.requestPath; split <;> [rfl; (split <;> rfl)]
@[simp] theorem State.requestPath_pending (s : State) (d : Nat) (b : Body) :
    (s.requestPath d b).1.pending = s.pending := by unfold State.requestPath; split <;> [rfl; (split <;> rfl)]

/-! ## Record updates -/

@[simp] theorem Record.disarmed_tag (r : Record) : r.disarmed.tag = r.tag := rfl
@[simp] theorem Record.disarmed_phase (r : Record) : r.disarmed.phase = r.phase := rfl
@[simp] theorem Record.disarmed_leadIndex (r : Record) : r.disarmed.leadIndex = r.leadIndex := rfl
@[simp] theorem Record.disarmed_trailIndex (r : Record) : r.disarmed.trailIndex = r.trailIndex := rfl
@[simp] theorem Record.disarmed_takeDue (r : Record) : r.disarmed.takeDue = none := rfl
@[simp] theorem Record.disarmed_taken (r : Record) : r.disarmed.taken = r.taken := rfl
@[simp] theorem Record.disarmed_outputBound (r : Record) : r.disarmed.outputBound = r.outputBound := rfl
@[simp] theorem Record.disarmed_isInbound (r : Record) : r.disarmed.isInbound = r.isInbound := rfl
@[simp] theorem Record.atRunout_tag (r : Record) : r.atRunout.tag = r.tag := by
  unfold Record.atRunout; split <;> rfl
@[simp] theorem Record.atRunout_phase (r : Record) : r.atRunout.phase = r.phase := by
  unfold Record.atRunout; split <;> rfl

end Sys2Proof.Machine
end

