-- ==== Sys2Proof/Laws/Ops.lean ====
section
/-! SUPPORT. What each shared operation can do, said once, so that no proof about a command unfolds it again. -/

namespace Sys2Proof.Machine

/-! ## Commands -/

theorem whileRunning_of_running {s : State} {f : State → State} (h : s.inReset = false) :
    whileRunning s f = .next (f s) := by
  simp [whileRunning, h]

theorem whileRunning_of_reset {s : State} {f : State → State} (h : s.inReset = true) :
    whileRunning s f = .next s := by
  simp [whileRunning, h]

/-- A command ends in a next state: the state as it is in reset, the meaning's otherwise. -/
theorem whileRunning_cases {s t : State} {f : State → State} (h : whileRunning s f = .next t) :
    (s.inReset = true ∧ t = s) ∨ (s.inReset = false ∧ t = f s) := by
  unfold whileRunning at h
  injection h with h
  cases hr : s.inReset <;> simp_all

/-! ## Counters (R155) -/

@[simp] theorem raised_zero (c : Count) : raised c 0 = c := by
  have h := c.isLt
  apply BitVec.eq_of_toNat_eq
  simp only [raised, Nat.add_zero, BitVec.toNat_ofNat]
  omega

@[simp] theorem raised_raised (c : Count) (m n : Nat) : raised (raised c m) n = raised c (m + n) := by
  apply BitVec.eq_of_toNat_eq
  simp only [raised, BitVec.toNat_ofNat]
  omega

theorem raised_toNat (c : Count) (n : Nat) : (raised c n).toNat = min 65535 (c.toNat + n) := by
  simp only [raised, BitVec.toNat_ofNat]
  omega

theorem le_raised (c : Count) (n : Nat) : c ≤ raised c n := by
  have h := c.isLt
  rw [BitVec.le_def, raised_toNat]
  omega

@[simp] theorem raiseCounter_zero (c : Counter) (k : Counters) : raiseCounter c 0 k = k := by
  cases c <;> simp [raiseCounter]

theorem countIf_eq (s : State) (b : Bool) (c : Counter) : s.countIf b c = s.countBy c (if b then 1 else 0) := by
  cases b
  · simp [State.countIf, State.countBy, State.updCounters]
  · simp [State.countIf, State.count]

/-! ## The Sheet Table as a list (R8, R9) -/

section Lists

variable {α : Type} {p : α → Bool} {f : α → α} {pre post : List α} {x : α}

theorem find?_middle (hpre : ∀ y ∈ pre, p y = false) (hx : p x = true) : (pre ++ x :: post).find? p = some x := by
  induction pre with
  | nil => simp [hx]
  | cons y ys ih => simp_all

theorem eraseP_middle (hpre : ∀ y ∈ pre, p y = false) (hx : p x = true) :
    (pre ++ x :: post).eraseP p = pre ++ post := by
  induction pre with
  | nil => simp [hx]
  | cons y ys ih => simp_all

theorem updateFirst_middle (hpre : ∀ y ∈ pre, p y = false) (hx : p x = true) :
    updateFirst p f (pre ++ x :: post) = pre ++ f x :: post := by
  induction pre with
  | nil => simp [updateFirst, hx]
  | cons y ys ih => simp_all [updateFirst]

/-- Either nothing satisfies `p` and the list stays, or its first member that does is replaced. -/
theorem updateFirst_cases (p : α → Bool) (f : α → α) (l : List α) :
    (updateFirst p f l = l ∧ ∀ y ∈ l, p y = false)
      ∨ ∃ pre y post, l = pre ++ y :: post ∧ (∀ z ∈ pre, p z = false) ∧ p y = true
          ∧ updateFirst p f l = pre ++ f y :: post := by
  induction l with
  | nil => simp [updateFirst]
  | cons y ys ih =>
    by_cases hy : p y = true
    · exact .inr ⟨[], y, ys, by simp [updateFirst, hy]⟩
    · have hy' : p y = false := by simpa using hy
      rcases ih with ⟨h1, h2⟩ | ⟨pre, z, post, h1, h2, h3, h4⟩
      · exact .inl (by simp_all [updateFirst])
      · exact .inr ⟨y :: pre, z, post, by simp_all [updateFirst]⟩

theorem updateFirst_length (p : α → Bool) (f : α → α) (l : List α) : (updateFirst p f l).length = l.length := by
  rcases updateFirst_cases p f l with ⟨h, -⟩ | ⟨pre, y, post, rfl, -, -, h⟩ <;> simp [h]

end Lists

theorem insertInbound_perm (r : Record) (l : List Record) : (insertInbound r l).Perm (r :: l) := by
  induction l with
  | nil => simp [insertInbound]
  | cons x xs ih =>
    unfold insertInbound
    split
    · exact .refl _
    · exact (List.Perm.cons x ih).trans (List.Perm.swap r x xs)

theorem insertResident_perm (r : Record) (l : List Record) : (insertResident r l).Perm (r :: l) := by
  unfold insertResident
  refine List.perm_middle.trans (.cons r ?_)
  rw [List.takeWhile_append_dropWhile]

theorem mem_insertInbound {r x : Record} {l : List Record} : x ∈ insertInbound r l ↔ x = r ∨ x ∈ l := by
  simpa using (insertInbound_perm r l).mem_iff (a := x)

theorem mem_insertResident {r x : Record} {l : List Record} : x ∈ insertResident r l ↔ x = r ∨ x ∈ l := by
  simpa using (insertResident_perm r l).mem_iff (a := x)

/-! ## Requests to queue a frame (R137, R149, R156) -/

/-- A request is discarded with a strap fault, dropped and counted where the queue is full, and else joins its queue. -/
theorem request_cases (s : State) (c : QueueClass) (dest : Nat) (body : Body) :
    (s.strapFault = true ∧ s.request c dest body = s)
      ∨ (s.strapFault = false ∧ queueDepth c ≤ (s.link.queue c).length
          ∧ s.request c dest body = s.count .reportDrop)
      ∨ (s.strapFault = false ∧ (s.link.queue c).length < queueDepth c
          ∧ s.request c dest body = s.append c (newEntry dest body)) := by
  unfold State.request State.queueFull
  by_cases h1 : s.strapFault = true
  · simp [h1]
  · by_cases h2 : queueDepth c ≤ (s.link.queue c).length
    · simp [h1, h2]
    · simp [h1, h2]; omega

/-- A request for the PATH queue is discarded with a strap fault, is the LINK jam where the queue is full (R79), and
else joins the queue. -/
theorem requestPath_cases (s : State) (dest : Nat) (body : Body) :
    (s.strapFault = true ∧ s.requestPath dest body = (s, []))
      ∨ (s.strapFault = false ∧ 8 ≤ s.link.path.length ∧ s.requestPath dest body = (s, [linkReport]))
      ∨ (s.strapFault = false ∧ s.link.path.length < 8
          ∧ s.requestPath dest body = (s.append .path (newEntry dest body), [])) := by
  unfold State.requestPath State.queueFull
  by_cases h1 : s.strapFault = true
  · simp [h1]
  · by_cases h2 : 8 ≤ s.link.path.length
    · simp [h1, h2, Link.queue, queueDepth]
    · simp [h1, h2, Link.queue, queueDepth]; omega

/-- A CENSUS part is discarded with a strap fault, joins a REPORT queue with room, takes the place of the newest entry
it may evict, or is dropped; the last two count (R137). -/
theorem requestCensusPart_cases (s : State) (part : CensusPart) :
    (s.strapFault = true ∧ s.requestCensusPart part = s)
      ∨ (s.strapFault = false ∧ s.link.report.length < 6
          ∧ s.requestCensusPart part = s.append .report (newEntry 0 (.census part)))
      ∨ (s.strapFault = false ∧ 6 ≤ s.link.report.length ∧ s.link.report.any Entry.evictable = true
          ∧ s.requestCensusPart part
            = (s.updLink fun l =>
                { l with report := eraseNewest Entry.evictable l.report ++ [newEntry 0 (.census part)] }).count
                .reportDrop)
      ∨ (s.strapFault = false ∧ 6 ≤ s.link.report.length ∧ s.link.report.any Entry.evictable = false
          ∧ s.requestCensusPart part = s.count .reportDrop) := by
  unfold State.requestCensusPart State.queueFull
  by_cases h1 : s.strapFault = true
  · simp [h1]
  · by_cases h2 : 6 ≤ s.link.report.length
    · cases h3 : s.link.report.any Entry.evictable
      · exact .inr (.inr (.inr (by simp [h1, h2, Link.queue, queueDepth])))
      · exact .inr (.inr (.inl (by simp [h1, h2, Link.queue, queueDepth, jobStation])))
    · simp [h1, h2, Link.queue, queueDepth, jobStation]; omega

/-- What `eraseNewest` leaves: the last member that satisfies `p` goes, and the others keep their order. -/
theorem eraseNewest_middle {p : Entry → Bool} {pre post : List Entry} {e : Entry} (hpost : ∀ y ∈ post, p y = false)
    (he : p e = true) : eraseNewest p (pre ++ e :: post) = pre ++ post := by
  unfold eraseNewest
  have h : (pre ++ e :: post).reverse = post.reverse ++ e :: pre.reverse := by simp
  rw [h, eraseP_middle (by simpa using hpost) he]
  simp

theorem eraseNewest_length {p : Entry → Bool} {q : List Entry} (h : q.any p = true) :
    (eraseNewest p q).length + 1 = q.length := by
  obtain ⟨x, hx, hp⟩ := List.any_eq_true.1 h
  unfold eraseNewest
  have hl : 0 < q.length := List.length_pos_of_mem hx
  rw [List.length_reverse, List.length_eraseP_of_mem (List.mem_reverse.2 hx) hp, List.length_reverse]
  omega

/-! ## The Path State Controller (chapters 6 to 8) -/

theorem toState_path (s : State) (st : PathState) :
    (s.toState st).path
      = { s.path with
          state := st, hold := holdsLine st, drv := drives st s.front.cover.level, decideTimer := none,
          stopSettle := none, coverSettle := none } :=
  rfl

/-- STOPPING entry as one update (R110). -/
theorem enterStopping_eq (s : State) :
    s.enterStopping
      = { s with
          path :=
            { s.path with
              state := .stopping, hold := true, drv := false, decideTimer := none,
              stopSettle := some (s.window.timeBase + BitVec.ofNat 16 s.prof.stopSettle), coverSettle := none }
          tracker := { s.tracker with table := s.tracker.table.map Record.disarmed } } :=
  rfl

theorem enterStandby_eq (s : State) :
    s.enterStandby
      = { s with
          path :=
            { s.path with
              state := .standby, hold := false, drv := false, decideTimer := none, stopSettle := none,
              coverSettle := none }
          tracker := { s.tracker with runOut := [] } } :=
  rfl

theorem startVerify_eq (s : State) :
    s.startVerify
      = { s with
          path :=
            { s.path with
              state := .verify, hold := true, drv := false, decideTimer := none, stopSettle := none,
              coverSettle := some (s.window.timeBase + BitVec.ofNat 16 s.prof.coverSettle) } } :=
  rfl

/-- The judgement of LINKING changes nothing, or enters STANDBY with the cover CLOSED, the sensors CLEAR and the
neighbours known (R102). -/
theorem judgeLinking_cases (s : State) :
    (s.readyForStandby = false ∧ s.judgeLinking = s)
      ∨ (s.neighboursKnown = true ∧ s.front.cover.level = .closed ∧ s.sensorsClear = true
          ∧ s.judgeLinking = s.enterStandby) := by
  unfold State.judgeLinking
  cases h : s.readyForStandby
  · simp
  · right
    simp only [State.readyForStandby, Bool.and_eq_true, beq_iff_eq] at h
    simp [h]

/-- The record condition changes nothing, or ends a run-out without a RESIDENT or OUTBOUND record (R109). -/
theorem judgeRunout_cases (s : State) :
    (s.judgeRunout = s ∧ (s.path.state = .runout → s.holdsSheets = true))
      ∨ (s.path.state = .runout ∧ s.holdsSheets = false ∧ s.judgeRunout = s.enterStopping) := by
  unfold State.judgeRunout
  split
  · rename_i h; exact .inr ⟨h.1, h.2, rfl⟩
  · rename_i h
    refine .inl ⟨rfl, fun hr => ?_⟩
    cases hs : s.holdsSheets
    · exact absurd ⟨hr, hs⟩ h
    · rfl

/-- RUNOUT entry with a sheet to run out stays in RUNOUT (R121). -/
theorem enterRunout_of_holdsSheets {s : State} (h : s.holdsSheets = true) :
    s.enterRunout = (s.toState .runout).updTable fun l => l.map Record.atRunout := by
  have hs : ((s.toState .runout).updTable fun l => l.map Record.atRunout).holdsSheets = true := by
    simp only [State.holdsSheets, State.updTable, State.updTracker, State.toState, State.updPath, List.any_map] at h ⊢
    refine Eq.trans (congrArg (List.any _) (funext fun r => ?_)) h
    simp [Record.isInbound]
  simp [State.enterRunout, State.judgeRunout, hs]

/-- With no sheet to run out RUNOUT entry goes on to STOPPING in the same event (R109, R121). -/
theorem enterRunout_of_empty {s : State} (h : s.holdsSheets = false) : s.enterRunout = s.enterStopping := by
  have hs : ((s.toState .runout).updTable fun l => l.map Record.atRunout).holdsSheets = false := by
    simp only [State.holdsSheets, State.updTable, State.updTracker, State.toState, State.updPath, List.any_map] at h ⊢
    refine Eq.trans (congrArg (List.any _) (funext fun r => ?_)) h
    simp [Record.isInbound]
  have hd : ∀ r : Record, r.atRunout.disarmed = r.disarmed := by
    intro r
    unfold Record.atRunout
    split
    · cases hw : r.leadWindow <;> simp [Record.disarmed, hw]
    · rfl
  unfold State.enterRunout State.judgeRunout
  rw [if_pos ⟨rfl, hs⟩, enterStopping_eq, enterStopping_eq]
  simp [State.updTable, State.updTracker, State.toState, State.updPath, State.prof, Function.comp_def, hd]

/-- The end of DECIDE: RUNOUT with sheets to run out at an eligible station, STOPPING otherwise (R108, R121). -/
theorem endDecide_cases (s : State) :
    (s.eligible = true ∧ s.holdsSheets = true
        ∧ s.endDecide = (s.toState .runout).updTable fun l => l.map Record.atRunout)
      ∨ ((s.eligible = false ∨ s.holdsSheets = false) ∧ s.endDecide = s.enterStopping) := by
  unfold State.endDecide
  cases he : s.eligible
  · simp
  · cases hh : s.holdsSheets
    · right; simp [enterRunout_of_empty hh]
    · left; simp [enterRunout_of_holdsSheets hh]

/-- The HELD entry check (R113). -/
theorem heldCheck_cases (s : State) :
    (s.front.cover.level = .opened ∧ s.heldCheck = s.enterClearing)
      ∨ (s.front.cover.level = .closed ∧ s.tracker.table = [] ∧ s.sensorsClear = true
          ∧ s.heldCheck = s.startVerify)
      ∨ (s.front.cover.level = .closed ∧ (s.tracker.table ≠ [] ∨ s.sensorsClear = false) ∧ s.heldCheck = s) := by
  unfold State.heldCheck
  cases hc : s.front.cover.level
  · simp
  · cases ht : s.tracker.table
    · cases hs : s.sensorsClear <;> simp
    · simp

/-- VERIFY entry (R115). -/
theorem enterVerify_cases (s : State) :
    (s.sensorsClear = true ∧ s.enterVerify = s.startVerify)
      ∨ (s.sensorsClear = false ∧ s.enterVerify = (s.toState .verify).residueFound .verify) := by
  unfold State.enterVerify
  cases h : s.sensorsClear <;> simp

/-! ## Removals and the gate (R20, R37, R59) -/

/-- The table-empty signal applies a pending speed (R37). -/
theorem tableEmptySignal_cases (s : State) :
    (s.window.pendingSpeed = none ∧ s.tableEmptySignal = s)
      ∨ ∃ v, s.window.pendingSpeed = some v
          ∧ s.tableEmptySignal = { s with window := { s.window with currentSpeed := some v, pendingSpeed := none } } := by
  unfold State.tableEmptySignal
  cases h : s.window.pendingSpeed <;> simp [State.updWindow]

/-- A removal changes the table, and gives the table-empty signal where it takes the last record (R20). -/
theorem removeRecords_cases (s : State) (f : List Record → List Record) :
    (f s.tracker.table = [] ∧ s.tracker.table ≠ [] ∧ s.removeRecords f = (s.updTable f).tableEmptySignal)
      ∨ ((f s.tracker.table ≠ [] ∨ s.tracker.table = []) ∧ s.removeRecords f = s.updTable f) := by
  unfold State.removeRecords
  cases h1 : f s.tracker.table <;> cases h2 : s.tracker.table <;> simp

/-- The judgement of the gate changes the gate position alone. -/
theorem judgeGate_eq (s : State) :
    s.judgeGate
      = { s with
          tracker :=
            { s.tracker with
              gate := if s.tracker.table.any (Record.spans s.prof.n) then s.tracker.gate else s.gateTarget } } := by
  unfold State.judgeGate
  split <;> rfl

/-! ## Jams (chapter 5) -/

@[simp] theorem raiseJams_nil (s : State) : s.raiseJams [] = s := rfl

theorem raiseJams_cons (s : State) (r : JamReport) (rest : List JamReport) :
    s.raiseJams (r :: rest) = ((r :: rest).foldl State.recordOwn s).haltRequest :=
  rfl

theorem raiseJams_one (s : State) (r : JamReport) : s.raiseJams [r] = (s.recordOwn r).haltRequest :=
  rfl

theorem request_updJam (s : State) (f : JamMonitor → JamMonitor) (c : QueueClass) (dest : Nat) (body : Body) :
    (s.request c dest body).updJam f = (s.updJam f).request c dest body := by
  have hf : (s.updJam f).strapFault = s.strapFault := rfl
  have hq : (s.updJam f).queueFull c = s.queueFull c := rfl
  unfold State.request
  rw [hf, hq]
  cases s.strapFault <;> cases s.queueFull c <;> rfl

/-- A recorded own jam changes the jam items, and at most queues the JAM frame or counts its drop (R83 to R88). -/
theorem recordOwn_cases (s : State) (r : JamReport) :
    (s.jam.jamSent = true ∧ s.recordOwn r = { s with jam := s.afterOwnReport r })
      ∨ (s.jam.jamSent = false
          ∧ s.recordOwn r
            = ({ s with jam := { s.afterOwnReport r with jamSent := true } }).request .urgent 15
                (.jam { report := r, rank := s.prof.rank, epoch := s.path.epoch })) := by
  unfold State.recordOwn
  cases h : s.jam.jamSent
  · right
    refine ⟨rfl, ?_⟩
    simp only [Bool.false_eq_true, if_false, request_updJam]
    rfl
  · left; exact ⟨rfl, rfl⟩

/-- The answer to a halt request, by state (R91, R106, R108, R109). -/
theorem haltRequest_cases (s : State) :
    (s.path.state = .run ∧ s.haltRequest = s.flushHandoffs.enterStopping)
      ∨ (s.path.state = .decide ∧ s.haltRequest = s.enterStopping)
      ∨ (s.path.state = .runout ∧ s.prof.escalation = .fold ∧ s.haltRequest = s.enterStopping)
      ∨ (s.path.state = .runout ∧ s.prof.escalation = .lockout ∧ s.haltRequest = s.enterLockout)
      ∨ (s.path.state ≠ .run ∧ s.path.state ≠ .decide ∧ s.path.state ≠ .runout ∧ s.haltRequest = s) := by
  unfold State.haltRequest
  cases h : s.path.state <;> simp
  cases s.prof.escalation <;> simp

end Sys2Proof.Machine
end

