-- ==== Sys2Proof/Laws/PerInstr.lean ====
section
/-! SUPPORT. A statement about each command as syntax: the size of the frame that carries it. -/

namespace Sys2Proof.Laws.WireSize

/-- A command that is a received frame has 5 to 77 characters on the bus, from its destination to its CRC (R145; chapter
11.1: payloads of 0 to 72 bytes). -/
def Statement (i : Instr) : Prop :=
  i.WellFormed = true → ∀ (dest : Byte) (bytes : List Byte), encodeFrame dest i = some bytes →
    5 ≤ bytes.length ∧ bytes.length ≤ 77

/-- A command that is not a received frame has no encoding. -/
theorem of_none {i : Instr} (h : ∀ dest, encodeFrame dest i = none) : Statement i := by
  intro _ dest bytes hb
  rw [h dest] at hb
  cases hb

/-- The length of a frame is that of its payload and five characters more. -/
theorem frameBytes_length (dest source : Byte) (type : FrameType) (p : List Byte) :
    (frameBytes dest source type p).length = p.length + 5 := by
  simp [frameBytes]

/-- A command whose frame has a payload of up to 72 bytes. -/
theorem of_frame {i : Instr} {source : Byte} {type : FrameType} {p : List Byte} (hp : p.length ≤ 72)
    (h : ∀ dest, encodeFrame dest i = some (frameBytes dest source type p)) : Statement i := by
  intro _ dest bytes hb
  rw [h dest] at hb
  injection hb with hb
  subst hb
  rw [frameBytes_length]
  omega

theorem hardwareReset : Statement .hardwareReset := of_none fun _ => rfl

theorem resetRelease (straps : BitVec 4) (sns : Vector Level 4) (cvr : CoverLevel) : Statement (.resetRelease straps sns cvr) := of_none fun _ => rfl

theorem sensorInputChange (k : Fin 4) (level : Level) : Statement (.sensorInputChange k level) := of_none fun _ => rfl

theorem filterConfirm (k : Fin 4) : Statement (.filterConfirm k) := of_none fun _ => rfl

theorem rawEdge (k : Fin 4) (level : Level) : Statement (.rawEdge k level) := of_none fun _ => rfl

theorem coverInputChange (level : CoverLevel) : Statement (.coverInputChange level) := of_none fun _ => rfl

theorem coverConfirm : Statement .coverConfirm := of_none fun _ => rfl

theorem haltLineChange (othersHold : Bool) : Statement (.haltLineChange othersHold) := of_none fun _ => rfl

theorem leadExpiry (sheet : SheetId) : Statement (.leadExpiry sheet) := of_none fun _ => rfl

theorem trailExpiry (sheet : SheetId) : Statement (.trailExpiry sheet) := of_none fun _ => rfl

theorem takeExpiry (sheet : SheetId) : Statement (.takeExpiry sheet) := of_none fun _ => rfl

theorem decideTimerExpiry : Statement .decideTimerExpiry := of_none fun _ => rfl

theorem stopSettleExpiry : Statement .stopSettleExpiry := of_none fun _ => rfl

theorem coverSettleExpiry : Statement .coverSettleExpiry := of_none fun _ => rfl

theorem setup (source : Byte) (f : SetupFrame) : Statement (.setup source f) :=
  of_frame (source := source) (type := .setup) (p := setupPayload f) (by simp [setupPayload, halfBytes]) fun _ => rfl

theorem hello (source : Byte) (f : HelloFrame) : Statement (.hello source f) :=
  of_frame (source := source) (type := .hello) (p := helloPayload f) (by simp [helloPayload]) fun _ => rfl

theorem launch (source : Byte) (tag : WireTag) : Statement (.launch source tag) :=
  of_frame (source := source) (type := .launch) (p := tagBytes 0 tag) (by simp [tagBytes, halfBytes]) fun _ => rfl

theorem handoff (source : Byte) (tag : WireTag) (age : BitVec 16) : Statement (.handoff source tag age) :=
  of_frame (source := source) (type := .handoff) (p := tagBytes 0 tag ++ halfBytes age) (by simp [tagBytes, halfBytes]) fun _ => rfl

theorem taken (source : Byte) (sheet : SheetId) : Statement (.taken source sheet) :=
  of_frame (source := source) (type := .taken) (p := halfBytes ((0 : BitVec 4) ++ sheet)) (by simp [halfBytes]) fun _ => rfl

theorem speed (source : Byte) (value : BitVec 16) : Statement (.speed source value) :=
  of_frame (source := source) (type := .speed) (p := halfBytes value) (by simp [halfBytes]) fun _ => rfl

theorem resume (source : Byte) (epoch : Byte) : Statement (.resume source epoch) :=
  of_frame (source := source) (type := .resume) (p := [epoch]) (by simp) fun _ => rfl

theorem restart (source : Byte) : Statement (.restart source) :=
  of_frame (source := source) (type := .restart) (p := []) (by simp) fun _ => rfl

theorem queryStatus (source : Byte) : Statement (.queryStatus source) :=
  of_frame (source := source) (type := .query) (p := [0]) (by simp) fun _ => rfl

theorem queryCensus (source : Byte) : Statement (.queryCensus source) :=
  of_frame (source := source) (type := .query) (p := [1]) (by simp) fun _ => rfl

theorem jam (source : Byte) (f : JamFrame) : Statement (.jam source f) :=
  of_frame (source := source) (type := .jam) (p := jamPayload f) (by simp [jamPayload, halfBytes]) fun _ => rfl

theorem untakenFrame (source : Byte) (type : ReportType) (payload : List Byte) : Statement (.untakenFrame source type payload) := by
  intro hw
  have hl : payload.length ≤ 72 := by
    cases type <;> simp [Instr.WellFormed, ReportType.payloadLengths] at hw <;> omega
  exact of_frame (source := source) (type := reportFrameType type) hl (fun _ => rfl) hw

theorem frameAbandon (c : Option Character) : Statement (.frameAbandon c) := of_none fun _ => rfl

theorem assemblerIdle (idle : Nat) : Statement (.assemblerIdle idle) := of_none fun _ => rfl

theorem transmitStart (idle : Nat) : Statement (.transmitStart idle) := of_none fun _ => rfl

theorem collision : Statement .collision := of_none fun _ => rfl

theorem transmitComplete : Statement .transmitComplete := of_none fun _ => rfl

theorem markedCharacter (value : Byte) : Statement (.markedCharacter value) := of_none fun _ => rfl

end Sys2Proof.Laws.WireSize
end

