-- ==== Sys2Proof/Laws/Receiver.lean ====
section
/-! SUPPORT. What the receive assembler does with the characters of a frame (R145 to R148): a frame whose destination is
held is collected to its end, and reaches its owner where its length is one its type allows. -/

namespace Sys2Proof.Machine

open Sys2Proof.Safety

/-! ## The characters of one frame -/

theorem frameBytes_cons (dest source : Byte) (type : FrameType) (p : List Byte) :
    frameBytes dest source type p
      = dest :: source :: typeCode type :: BitVec.ofNat 8 p.length
          :: (p ++ [crc8 ([dest, source, typeCode type, BitVec.ofNat 8 p.length] ++ p)]) := by
  simp [frameBytes]

theorem frameBytes_length (dest source : Byte) (type : FrameType) (p : List Byte) :
    (frameBytes dest source type p).length = p.length + 5 := by
  simp [frameBytes]

theorem typeOfCode_typeCode (t : FrameType) : typeOfCode (typeCode t) = some t := by
  cases t <;> rfl

theorem length_of_allowed {t : FrameType} {n : Nat} (h : (payloadLengths t).contains n = true) : n ≤ 72 := by
  have hm : n ∈ payloadLengths t := by simpa using h
  have hall : ∀ m ∈ payloadLengths t, m ≤ 72 := by cases t <;> decide
  exact hall n hm

/-- A whole frame of an allowed length passes every check (R147), and is the command its payload spells. -/
theorem decodeFrame_frameBytes (dest source : Byte) {type : FrameType} {p : List Byte}
    (h : (payloadLengths type).contains p.length = true) :
    decodeFrame (frameBytes dest source type p) = .ok (commandOfFrame source p type) := by
  have hp : p.length ≤ 72 := length_of_allowed h
  have hn : (BitVec.ofNat 8 p.length).toNat = p.length := by simp; omega
  rw [frameBytes_cons]
  simp [decodeFrame, hn, Nat.not_lt.2 hp, typeOfCode_typeCode]
  simpa using h

/-- A frame cut short has shown no fault and is not at its end (R145). -/
theorem decodeFrame_take (dest source : Byte) (type : FrameType) {p : List Byte} (hp : p.length ≤ 72) {m : Nat}
    (hm : m < p.length + 5) : decodeFrame ((frameBytes dest source type p).take m) = .error .idleGap := by
  have hn : (BitVec.ofNat 8 p.length).toNat = p.length := by simp; omega
  rw [frameBytes_cons]
  match m with
  | 0 | 1 | 2 | 3 => rfl
  | m + 4 =>
    have hd : (List.take m (p ++ [crc8 ([dest, source, typeCode type, BitVec.ofNat 8 p.length] ++ p)])).drop p.length
        = [] := by
      rw [List.drop_eq_nil_iff, List.length_take, List.length_append]
      simp; omega
    simp only [List.take_succ_cons, decodeFrame, hn, Nat.not_lt.2 hp, if_false, hd]

/-! ## Collecting -/

/-- A frame goes on where the character joins it and shows no fault. -/
theorem collect_goesOn {held longer : List Byte} {c : Character} (h : collect held c = .goesOn longer) :
    longer = held ++ [c.data] ∧ decodeFrame (held ++ [c.data]) = .error .idleGap := by
  unfold collect at h
  split at h
  · cases h
  · split at h
    · cases h
    · split at h <;> simp_all

/-- A frame is received where an unmarked character without a framing error ends a good frame. -/
theorem collect_received {held : List Byte} {c : Character} {i : Instr} (h : collect held c = .received i) :
    c.mark = false ∧ c.stop = true ∧ decodeFrame (held ++ [c.data]) = .ok i := by
  unfold collect framingError at h
  split at h
  · cases h
  · split at h
    · cases h
    · split at h <;> simp_all

/-- What one character can do where no frame is collected: a marked one without a framing error begins a frame, and any
other is let by. -/
theorem receive_of_not_taking {s : State} (h : s.link.assembler ≠ .taking) (c : Character) :
    s.receive c = if c.mark = true ∧ c.stop = true then s.beginFrame c.data else s.letBy := by
  unfold State.receive framingError
  cases ha : s.link.assembler <;> simp_all

/-- What one character can do in TAKING: lengthen the frame held, which shows no fault yet, end a good frame, which its
owner takes, or abandon it. -/
theorem receive_of_taking {s : State} (h : s.link.assembler = .taking) (c : Character) :
    (decodeFrame (s.link.collecting ++ [c.data]) = .error .idleGap
        ∧ s.receive c = s.keepCollecting (s.link.collecting ++ [c.data]))
      ∨ (∃ i, c.mark = false ∧ c.stop = true ∧ decodeFrame (s.link.collecting ++ [c.data]) = .ok i
          ∧ s.receive c = s.frameEnded.handToOwner i)
      ∨ ∃ fault, s.receive c = s.abandonFrame fault := by
  unfold State.receive
  rw [h]
  cases hc : collect s.link.collecting c with
  | goesOn held => exact .inl ⟨(collect_goesOn hc).2, by rw [(collect_goesOn hc).1]⟩
  | received i =>
    obtain ⟨hm, hs, hd⟩ := collect_received hc
    exact .inr (.inl ⟨i, hm, hs, hd, rfl⟩)
  | fault f => exact .inr (.inr ⟨f, rfl⟩)

/-! ## Received frames -/

/-- A command whose frame is awaited hands it to its owner. -/
theorem onFrame_of_awaits {s : State} {i : Instr} (hr : s.inReset = false) (ha : Awaits s i) :
    onFrame i s = .next (s.frameEnded.handToOwner i) := by
  obtain ⟨ht, -, bytes, hb, hd⟩ := ha
  have hf : decodeFrame (frameFrom s.link.collecting i) = .ok i := by
    unfold frameFrom; rw [hb]; exact hd
  unfold onFrame
  rw [whileRunning_of_running hr, ht]
  simp only [hf, if_true]

/-- Where no frame is collected a frame's characters are let by. -/
theorem onFrame_of_not_taking {s : State} {i : Instr} (hr : s.inReset = false) (ht : s.link.assembler ≠ .taking) :
    onFrame i s = .next s.letBy := by
  unfold onFrame
  rw [whileRunning_of_running hr]
  cases ha : s.link.assembler <;> simp_all

/-- What a frame's command can do: nothing in reset or while another frame is collected, let the characters by, hand the
frame to its owner, or abandon it. -/
theorem onFrame_cases {s t : State} {i : Instr} (h : onFrame i s = .next t) :
    t = s
      ∨ (s.inReset = false ∧ s.link.assembler ≠ .taking ∧ t = s.letBy)
      ∨ (s.inReset = false ∧ s.link.assembler = .taking
          ∧ (t = s.frameEnded.handToOwner i ∨ ∃ fault, t = s.abandonFrame fault)) := by
  rcases whileRunning_cases h with ⟨-, ht⟩ | ⟨hr, ht⟩
  · exact .inl ht
  · cases ha : s.link.assembler <;> simp only [ha] at ht
    · exact .inr (.inl ⟨hr, by simp, ht⟩)
    · split at ht
      · split at ht
        · exact .inr (.inr ⟨hr, rfl, .inl ht⟩)
        · exact .inl ht
      · split at ht
        · exact .inr (.inr ⟨hr, rfl, .inr ⟨_, ht⟩⟩)
        · exact .inl ht
    · exact .inr (.inl ⟨hr, by simp, ht⟩)

/-- The frame a command encodes is awaited from its first character to its last but one, where it has a length its type
allows and reads as that command. -/
theorem awaits_of_take {s : State} {i : Instr} {dest source : Byte} {type : FrameType} {p : List Byte} {k : Nat}
    (ht : s.link.assembler = .taking) (hi : ∀ d, encodeFrame d i = some (frameBytes d source type p))
    (hl : (payloadLengths type).contains p.length = true) (hc : commandOfFrame source p type = i) (h1 : 1 ≤ k)
    (hk : k < p.length + 5) (hh : s.link.collecting = (frameBytes dest source type p).take k) : Awaits s i := by
  have hlen : s.link.collecting.length = k := by
    rw [hh, List.length_take, frameBytes_length]; omega
  have hbody : s.link.collecting ++ ((frameBytes 0 source type p).drop s.link.collecting.length).dropLast
      = [dest, source, typeCode type, BitVec.ofNat 8 p.length] ++ p := by
    rw [hlen, hh]
    match k, h1 with
    | k + 1, _ =>
      have hsame : (frameBytes 0 source type p).drop (k + 1)
          = (source :: typeCode type :: BitVec.ofNat 8 p.length
              :: (p ++ [crc8 ([0, source, typeCode type, BitVec.ofNat 8 p.length] ++ p)])).drop k := by
        rw [frameBytes_cons]; rfl
      have htail : (source :: typeCode type :: BitVec.ofNat 8 p.length
              :: (p ++ [crc8 ([0, source, typeCode type, BitVec.ofNat 8 p.length] ++ p)]))
          = (source :: typeCode type :: BitVec.ofNat 8 p.length :: p)
              ++ [crc8 ([0, source, typeCode type, BitVec.ofNat 8 p.length] ++ p)] := rfl
      have hle : k ≤ (source :: typeCode type :: BitVec.ofNat 8 p.length :: p).length := by simp; omega
      rw [hsame, htail, List.drop_append_of_le_length hle, List.dropLast_concat, frameBytes_cons]
      have htake : (dest :: source :: typeCode type :: BitVec.ofNat 8 p.length
              :: (p ++ [crc8 ([dest, source, typeCode type, BitVec.ofNat 8 p.length] ++ p)])).take (k + 1)
          = dest :: (source :: typeCode type :: BitVec.ofNat 8 p.length :: p).take k := by
        rw [List.take_succ_cons]
        congr 1
        exact List.take_append_of_le_length (l₂ := [_]) hle
      rw [htake, List.cons_append, List.take_append_drop]
      rfl
  refine ⟨ht, ?_, _, hi 0, ?_⟩
  · rw [← List.length_pos_iff_ne_nil, hlen]; omega
  · have hd := decodeFrame_frameBytes dest source hl
    rw [hc] at hd
    simp only [hbody]
    exact hd

theorem frameEnded_eq (s : State) : s.frameEnded = received s := rfl

end Sys2Proof.Machine
end

