-- ==== Sys2Proof/Tests/Slice0.lean ====
section
/-! SUPPORT. Tests of one step each, their expected values taken from the manual's worked examples or worked out by hand
from its rules; and, for every statement with hypotheses, a state and operands that meet them. -/

namespace Sys2Proof.Tests

set_option Elab.async false

open Sys2Proof Sys2Proof.Machine Sys2Proof.Safety

/-! ## Small states -/

/-- The fuser of 2.7 and 4.8: station 3, rank 3, 400 mm/s, three RAW sensors. -/
def fuser : Profile :=
  { rank := 3, roles := { noRoles with runout := true }, upA := 2, upB := 5, bridgeA := 1850, bridgeB := 700,
    exitA := 4, exitB := 0, reachA := 900, reachB := 0, divert := none, n := 3, positions := [0, 1200, 3000],
    modes := [.raw, .raw, .raw], filter := 8, anchoring := .anchored, speed := 400, tolPct := 10, slack := 40,
    lenTol := 50, linkAllow := 30, pickDelay := 5, stopSettle := 400, coverSettle := 500, escalation := .fold,
    report := .none }

/-- The exit station of 7.7: rank 4, DELIVERY and RUNOUT. -/
def exitStation : Profile :=
  { fuser with rank := 4, roles := { noRoles with delivery := true, runout := true }, upA := 3, exitA := 0, exitB := 5 }

/-- A configured peer of rank 9 that runs out. -/
def peer : RosterEntry :=
  { configured := true, rank := 9, roles := { noRoles with runout := true } }

/-- A station with a profile at rest in a state, its sensors CLEAR and its cover CLOSED, at straps 3. -/
def station (p : Profile) (st : PathState) (now : Tick) (table : List Machine.Record) : State :=
  { State.reset with
    inReset := false
    window := { timeBase := now, crystal := 0, currentSpeed := some p.speed, pendingSpeed := none }
    front :=
      { sensors :=
          Vector.ofFn fun k : Fin 4 =>
            { pin := .clear, mode := inputModeOf p k.val, stable := .clear, candidate := none }
        cover := { pin := .closed, level := .closed, candidate := none } }
    tracker := { Tracker.empty with table := table }
    path :=
      { State.reset.path with
        state := st, epoch := 9, hold := holdsLine st, drv := drives st .closed, lineHigh := !holdsLine st }
    setup := { straps := 3, profile := some p, roster := Vector.replicate 14 peer } }

/-- The fuser in a state. -/
def at_ (st : PathState) (now : Tick) (table : List Machine.Record) : State :=
  station fuser st now table

/-- A station out of reset with no profile. -/
def bare (straps : BitVec 4) : State :=
  { State.reset with inReset := false, setup := { State.reset.setup with straps := straps } }

/-- A state with the sensors' stable levels set. -/
def levels (s : State) (l : List Level) : State :=
  { s with
    front :=
      { s.front with
        sensors := Vector.ofFn fun k : Fin 4 => { s.front.sensors[k] with stable := l.getD k.val .clear } } }

/-- A state with a REPORT queue of `n` notices. -/
def reports (s : State) (n : Nat) : State :=
  { s with link := { s.link with report := List.replicate n (fresh 0 (.notice (.clear 0 0 .standby))) } }

/-- A state with a PATH queue of `n` TAKENs. -/
def paths (s : State) (n : Nat) : State :=
  { s with link := { s.link with path := List.replicate n (fresh 2 (.taken 215)) } }

/-- A state with the three timers set. -/
def timed (s : State) (t : Tick) : State :=
  { s with path := { s.path with decideTimer := some t, stopSettle := some t, coverSettle := some t } }

/-- A state with the cover level and its candidate set. -/
def covered (s : State) (l : CoverLevel) (c : Option (Candidate CoverLevel)) : State :=
  { s with front := { s.front with cover := { pin := l, level := l, candidate := c } } }

/-- The LINE capture. -/
def lineCapture : Capture :=
  { cause := .line, kind := none, sensor := none, sheetId := none, origin := none, rank := none }

/-- A state with a capture and a highest rank. -/
def jammed (s : State) (c : Capture) (rank : Nat) : State :=
  { s with jam := { JamMonitor.clear with capture := some c, highestRank := rank } }

/-- A state with the gate set. -/
def gated (s : State) (g : Exit) : State :=
  { s with tracker := { s.tracker with gate := g } }

/-- A window of 2.7: the lead window of sensor 1, due at 7740. -/
def leadWin : Window :=
  { early := 7060, expected := 7400, due := some { tick := 7740, armedAt := 4400 } }

/-- A window of 2.7: the trail window of sensor 0, due at 11950. -/
def trailWin : Window :=
  { early := 11700, expected := 11825, due := some { tick := 11950, armedAt := 4400 } }

/-- A sheet of 2970 dmm from upstream A toward exit A, with lead captures of 2.7 and 4.8. -/
def sheet (id : SheetId) (phase : Phase) (lead trail : Nat) : Machine.Record :=
  { tag := { sheetId := id, job := 3, page := 17, side := .simplex, length := 2970, heavy := false }
    source := .upA
    exit := .a
    phase := phase
    entryAnchor := 65000
    expectedEntry := 4089
    leadIndex := lead
    trailIndex := trail
    leadCaptures := ([4400, 7420, 11950] : List Tick).take lead
    leadWindow := if lead < 3 then some leadWin else none
    trailWindow := if trail < lead then some trailWin else none
    takeDue := none
    taken := none
    outputBound := none
    entryInRunout := false }

/-- An OUTBOUND sheet on its way to a neighbour. -/
def outSheet (id : SheetId) (trail : Nat) (taken : Bool) : Machine.Record :=
  { sheet id .outbound 3 trail with
    taken := some taken, outputBound := some false, takeDue := some { tick := 14495, armedAt := 11950 } }

/-- An OUTBOUND sheet on its way to the output tray. -/
def traySheet (id : SheetId) (trail : Nat) : Machine.Record :=
  { sheet id .outbound 3 trail with outputBound := some true }

/-- `n` INBOUND sheets with ids 100 and up. -/
def queueOf (n : Nat) : List Machine.Record :=
  (List.range n).map fun i => sheet (BitVec.ofNat 12 (100 + i)) .inbound 0 0

/-- The tag of sheet 212 as a frame carries it (4.8). -/
def tag212 : WireTag :=
  { sheetId := 212, job := 3, page := 17, side := 0, heavy := false, length := 2970 }

/-- A state whose assembler has taken the destination 15 of a frame. -/
def listening (s : State) : State :=
  { s with link := { s.link with assembler := .taking, collecting := [15] } }

/-- Such a state awaits every frame a station can receive. -/
theorem awaits_listening (s : State) {i : Instr} {source : Byte} {type : FrameType} {payload : List Byte}
    (h : ∀ dest, encodeFrame dest i = some (frameBytes dest source type payload))
    (hl : (payloadLengths type).contains payload.length = true := by rfl)
    (hc : commandOfFrame source payload type = i := by first | rfl | decide +kernel) : Awaits (listening s) i :=
  awaits_of_take (dest := 15) (k := 1) rfl h hl hc (by decide) (by omega) (by rw [frameBytes_cons]; rfl)

/-- A state with an idle count. -/
def idle (n : Nat) (s : State) : State :=
  { s with link := { s.link with idleCount := n } }

/-- The state a command answers. -/
def after (o : Host.Outcome State Machine.Fault Machine.Refusal) : State :=
  match o with
  | .next t => t
  | .fault _ => State.reset
  | .refused _ => State.reset

/-- The state after one command. -/
def ran (c : Instr) (s : State) : State :=
  after (exec c s)

/-- The state after unmarked characters have come one by one. -/
def heard (bytes : List Byte) (s : State) : State :=
  bytes.foldl (fun s b => ran (.frameAbandon (some (unmarked b))) s) s

/-- The state after a frame has come whole. -/
def took (c : Instr) (s : State) : State :=
  ran c (ran (.markedCharacter 15) s)

/-! ## WellFormed, the CRC and frames as bytes -/

theorem test_wf_status_length : (Instr.untakenFrame 3 .status [0]).WellFormed = false := by decide
theorem test_wf_notice_length : (Instr.untakenFrame 3 .notice [1, 0, 0, 0]).WellFormed = true := by decide
theorem test_wf_idle_two : (Instr.assemblerIdle 2).WellFormed = false := by decide
theorem test_wf_idle_three : (Instr.assemblerIdle 3).WellFormed = true := by decide

/-- R146, by hand: 0x0F enters as 00001111; the register ends at 0x2D. -/
theorem test_crc_one_byte : crc8 [0x0F] = 0x2D := by decide +kernel

/-- R146, the manual's values: 2D after the destination 15, CA after the source 3. -/
theorem test_crc_two_bytes : crc8 [15, 3] = 0xCA := by decide +kernel

/-- RESUME with epoch 9 to 15 from 0, its bytes from 11.1 and 11.3. -/
theorem test_decode_resume : decodeFrame [15, 0, 7, 1, 9, crc8 [15, 0, 7, 1, 9]] = .ok (.resume 0 9) :=
    by decide +kernel

/-- SPEED 800 is 0x0320, most significant byte first (R170). -/
theorem test_decode_speed :
    decodeFrame [3, 0, 6, 2, 0x03, 0x20, crc8 [3, 0, 6, 2, 0x03, 0x20]] = .ok (.speed 0 800) := by decide +kernel

/-- TAKEN of sheet 212 (0x0D4), its upper four bits unused. -/
theorem test_decode_taken :
    decodeFrame [3, 4, 5, 2, 0xF0, 0xD4, crc8 [3, 4, 5, 2, 0xF0, 0xD4]] = .ok (.taken 4 212) := by decide +kernel

/-- HANDOFF of sheet 212: id 0x0D4, job 3, page 17, SIMPLEX, not heavy, length 2970 = 0x0B9A, age 7 (11.2, 11.4). -/
theorem test_decode_handoff :
    decodeFrame
        ([4, 3, 4, 9, 0x00, 0xD4, 3, 0, 17, 0x0B, 0x9A, 0, 7]
          ++ [crc8 [4, 3, 4, 9, 0x00, 0xD4, 3, 0, 17, 0x0B, 0x9A, 0, 7]])
      = .ok (.handoff 3 tag212 7) := by decide +kernel

/-- JAM of 5.9: SHORT (4), sensor 2, sheet 216 = 0x0D8, rank 2, epoch 9. -/
theorem test_decode_jam :
    decodeFrame ([15, 2, 10, 6, 4, 2, 0, 0xD8, 2, 9] ++ [crc8 [15, 2, 10, 6, 4, 2, 0, 0xD8, 2, 9]])
      = .ok (.jam 2 { kind := 4, sensor := 2, noSheet := false, sheetId := 216, rank := 2, epoch := 9 }) :=
          by decide +kernel

/-- HELLO: fresh, the other flags clear, rank 0, no roles, no sensors (11.4). -/
theorem test_decode_hello :
    decodeFrame ([15, 1, 2, 4, 0x80, 0, 0, 0] ++ [crc8 [15, 1, 2, 4, 0x80, 0, 0, 0]])
      = .ok (.hello 1
          { fresh := true, configured := false, exitB := false, rank := 0, roles := noRoles, sensorCount := 0 }) := by
  decide +kernel

/-- The faults of R147 that concern a frame's bytes. -/
theorem test_decode_faults :
    decodeFrame [15, 0, 7, 1, 9, 0] = .error .crcDiffers
      ∧ decodeFrame [15, 0, 14, 0, crc8 [15, 0, 14, 0]] = .error .unknownType
      ∧ decodeFrame [15, 0, 7, 0, crc8 [15, 0, 7, 0]] = .error .lengthNotAllowed
      ∧ decodeFrame [15, 0, 7, 73] = .error .lengthAbove72 := by decide +kernel

/-- A SLIP of sheet 213 (0x0D5) at sensor 2, deviation -2 (11.5). -/
theorem test_notice_bytes : noticePayload (.slip 213 2 (-2)) = [1, 0x00, 0xD5, 2, 0xFF, 0xFE] := by decide

/-- The character of R144: start 0, data least significant first, mark, stop 1. -/
theorem test_character_bits :
    characterBits (sentCharacter true 0x0F) = [false, true, true, true, true, false, false, false, false, true,
        true] := by decide

/-- R156: in reset PB_TX is high. -/
theorem test_pb_tx_reset : pbTxPin State.reset 0 = true := by decide

/-! ## Reset, release and RESTART -/

theorem test_hardware_reset :
    (ran .hardwareReset (at_ .run 100 [sheet 212 .inbound 0 0])).path.state = .unconfigured
      ∧ (ran .hardwareReset (at_ .run 100 [sheet 212 .inbound 0 0])).tracker.table = [] := by decide

/-- 10.8 step 0: straps read 2, and the fresh HELLO is the first frame. -/
theorem test_reset_release :
    (ran (.resetRelease 2 (Vector.replicate 4 .clear) .closed) State.reset).stationNumber = some 2
      ∧ (ran (.resetRelease 2 (Vector.replicate 4 .clear) .closed) State.reset).link.report.length = 1 := by decide

/-- 10.6: RESTART keeps the roster and empties the table. -/
theorem test_restart :
    (took (.restart 0) (at_ .stopping 100 [sheet 212 .inbound 0 0])).path.state = .unconfigured
      ∧ (took (.restart 0) (at_ .stopping 100 [sheet 212 .inbound 0 0])).rosterEntry 4 = peer := by decide +kernel

/-! ## Sensors: 3.11 -/

/-- The fuser with sensor 1 FILTERED and report level TRACE, sheet 210 caught at sensor 0 at 4400. -/
def bounced (now : Tick) (st : PathState) (start : Option Tick) : State :=
  let s := station { fuser with modes := [.raw, .filtered, .raw], report := .trace } st now
    [if st = .run then sheet 210 .resident 1 0 else (sheet 210 .resident 1 0).disarmed]
  match start with
  | none => s
  | some t =>
    withSensor s 1 { pin := .covered, mode := .filtered, stable := .clear,
                     candidate := some { level := .covered, start := t } }

theorem test_candidate_forms :
    (ran (.sensorInputChange 1 .covered) (bounced 7500 .run none)).front.sensors[1].candidate
      = some { level := .covered, start := 7500 } := by decide

theorem test_bounce_counts :
    (ran (.sensorInputChange 1 .clear) (bounced 7503 .run (some 7500))).front.sensors[1].candidate = none
      ∧ (ran (.sensorInputChange 1 .clear) (bounced 7503 .run (some 7500))).counters.chatter = 1 := by decide

/-- At 7511 the LEAD is matched with capture 7504, with a TRACE notice of deviation +104 and no slip. -/
theorem test_filter_confirm :
    (ran (.filterConfirm 1) (bounced 7511 .run (some 7504))).tracker.table.map (fun r => r.leadCaptures) = [[4400,
        7504]]
      ∧ (ran (.filterConfirm 1) (bounced 7511 .run (some 7504))).link.report
        = [fresh 0 (.notice (.traceLead 210 1 104))] := by decide

/-- The second case: in STOPPING at 7743 the capture 7736 is matched, deviation +336. -/
theorem test_filter_confirm_late :
    (ran (.filterConfirm 1) (bounced 7743 .stopping (some 7736))).tracker.table.map (fun r => r.leadIndex) = [2]
      ∧ (ran (.filterConfirm 1) (bounced 7743 .stopping (some 7736))).link.report
        = [fresh 0 (.notice (.traceLead 210 1 336))] := by decide

/-! ## Edges: 2.7 and 3.12 -/

/-- The HANDOFF of 2.7 with receipt tick 65010 and age 8. -/
def entered : State :=
  took (.handoff 2 tag212 8) (at_ .run 65010 [])

theorem test_handoff_window :
    entered.tracker.table.map (fun r => r.leadWindow)
      = [some { early := 3587, expected := 4089, due := some { tick := 4591, armedAt := 65010 } }] := by decide +kernel

/-- 1.8, across the wrap: an entry expected at 65500 stands before one expected at 200. -/
theorem test_insert_across_wrap :
    (insertInbound { sheet 2 .inbound 0 0 with expectedEntry := 65500 }
        [{ sheet 1 .inbound 0 0 with expectedEntry := 200 }]).map (fun r => r.tag.sheetId) = [2, 1] := by decide

/-- The entry capture of 2.7 at 4400: a slip, and the windows of sensor 1 and sensor 0. -/
theorem test_entry_capture :
    (entered.takeEdge 0 .covered 4400).counters.slip = 1
      ∧ (entered.takeEdge 0 .covered 4400).tracker.table.map
          (fun r => (r.leadWindow.map fun w => (w.early, w.expected), r.trailWindow.map fun w => (w.early, w.expected)))
        = [(some (7060, 7400), some (11700, 11825))] := by decide +kernel

/-- The exit capture of 2.7 at 11950: the take due is 14495, and a HANDOFF is queued. -/
theorem test_raw_exit_edge :
    (ran (.rawEdge 2 .covered) (at_ .run 11950 [sheet 212 .resident 2 1])).tracker.table.map
        (fun r => r.takeDue.map fun d => d.tick) = [some 14495]
      ∧ (ran (.rawEdge 2 .covered) (at_ .run 11950 [sheet 212 .resident 2 1])).link.path.length = 1 := by decide

/-- 3.12 step 5, the LEAD first: the gate is at B, and a GATE jam at sensor 2 names sheet 72. -/
theorem test_gate_jam :
    (((gated (at_ .run 11950 [sheet 72 .resident 2 1]) .b).takeEdge 2 .covered 11950).jam.capture.map
        fun c => (c.kind, c.sheetId))
      = some (some .gate, some 72) := by decide

/-- 4.8 step 8: the last TRAIL of a taken sheet is a pass. -/
theorem test_raw_trail_pass :
    ((levels (at_ .run 19380 [outSheet 212 2 true]) [.clear, .clear, .covered]).takeEdge 2 .clear 19380).counters.passed
      = 1 := by decide

/-! ## The cover and the line -/

theorem test_cover_candidate :
    (ran (.coverInputChange .opened) (at_ .run 100 [])).front.cover.candidate
      = some { level := .opened, start := 100 } := by decide

/-- R78, R117: the cover opens in RUN; the capture is the own jam COVER and the drive stops. -/
theorem test_cover_opens :
    (ran .coverConfirm (covered (at_ .run 149 []) .closed (some { level := .opened, start :=
        100 }))).path.state = .stopping
      ∧ (ran .coverConfirm (covered (at_ .run 149 []) .closed (some { level := .opened, start :=
          100 }))).path.drv = false := by
  decide

/-- 7.7 step 1: at 40017 the line is seen low; DECIDE, with the timer at 40047 and DRV on. -/
theorem test_line_falls :
    (ran (.haltLineChange true) (at_ .run 40017 [])).path.decideTimer = some 40047
      ∧ (ran (.haltLineChange true) (at_ .run 40017 [])).path.drv = true := by decide

/-! ## Expiries -/

/-- 3.11: the lead expiry at 7740 is the own jam LATE, sensor 1. -/
theorem test_lead_expiry :
    (ran (.leadExpiry 210) (at_ .run 7740 [sheet 210 .resident 1 0])).jam.capture
      = some { cause := .own, kind := some .late, sensor := some 1, sheetId := some 210, origin := some 3,
               rank := some 3 } := by decide

/-- 5.9 step 1: the trail expiry with the sensor COVERED is the own jam STALL. -/
theorem test_trail_expiry :
    ((ran (.trailExpiry 214) (levels (at_ .run 11950 [sheet 214 .resident 2 1]) [.clear, .covered])).jam.capture.bind
        fun c => c.kind) = some .stall := by decide

/-- 4.8 step 6: with taken yes the take expiry only makes the take due absent. -/
theorem test_take_expiry :
    ran (.takeExpiry 212) (at_ .run 14495 [outSheet 212 1 true])
      = at_ .run 14495 [{ outSheet 212 1 true with takeDue := none }] := by decide

/-- R108: with no JAM frame recorded the DECIDE timer ends in STOPPING. -/
theorem test_decide_expiry :
    (ran .decideTimerExpiry (timed (at_ .decide 40047 []) 40047)).path.state = .stopping := by decide

/-- The table of 8.8 at the STOP_SETTLE expiry. -/
def stopped : State :=
  levels
    (timed
      (jammed
        (at_ .stopping 5600
          [outSheet 212 2 true, outSheet 213 2 false, sheet 214 .resident 2 1, sheet 215 .resident 1 0,
            sheet 216 .inbound 0 0])
        { cause := .own, kind := some .stall, sensor := some 1, sheetId := some 214, origin := some 3, rank :=
            some 3 } 3)
      5600)
    [.covered, .covered, .covered]

theorem test_stop_settle :
    ((ran .stopSettleExpiry stopped).census.map fun c => c.entries.map fun e => (e.tag.sheetId, e.fate, e.jamFlag))
        = some [(213, .unconfirmed, false), (214, .stranded, true), (215, .stranded, false)]
      ∧ (ran .stopSettleExpiry stopped).path.state = .held := by decide

/-- 8.8 step 8: the pending speed 350 is applied, and STANDBY is entered. -/
theorem test_cover_settle :
    (ran .coverSettleExpiry
        { timed (at_ .verify 9600 [sheet 213 .resident 1 0]) 9600 with
          window := { timeBase := 9600, crystal := 0, currentSpeed := some 400,
                      pendingSpeed := some 350 } }).window.currentSpeed
      = some 350 := by decide

/-! ## Frames -/

/-- A SETUP of the fuser, its SLACK of 501 one above the range (R165). -/
def setupFuser : SetupFrame :=
  { epoch := 7, rank := 3, roles := noRoles, upA := 2, upB := 0, exitA := 4, exitB := 0, bridgeA := 1850, bridgeB := 0,
    reachA := 900, reachB := 0, divertPresent := false, divert := { simplex := false, front := false, back := false },
    n := 3, pos1 := 1200, pos2 := 3000, pos3 := 0, anchoring := 0, escalation := 0, report := 0, mode0 := 1, mode1 := 1,
    mode2 := 1, mode3 := 3, filter := 8, speed := 400, tolPct := 10, slack := 501, lenTol := 50, linkAllow := 30,
    pickDelay := 5, stopSettle := 400, coverSettle := 500 }

/-- 10.8 step 4: no neighbour is configured yet, so the station waits in LINKING; one clamp. -/
theorem test_setup :
    (took (.setup 0 setupFuser) (bare 3)).path.state = .linking
      ∧ (took (.setup 0 setupFuser) (bare 3)).counters.clamp = 1 := by decide +kernel

/-- R164: exit A a station's own number. -/
theorem test_setup_refused :
    took (.setup 0 { setupFuser with exitA := 3 }) (bare 3) = refusedOnce (bare 3) := by decide +kernel

/-- A HELLO of a configured station, or a fresh one. -/
def helloOf (fresh : Bool) : HelloFrame :=
  { fresh := fresh, configured := !fresh, exitB := false, rank := 1, roles := noRoles, sensorCount := 1 }

/-- 10.8 step 2: the reply queued already serves the second fresh HELLO. -/
theorem test_hello_reply :
    (took (.hello 4 (helloOf true)) (took (.hello 1 (helloOf true)) (bare 3))).link.report.length = 1 :=
        by decide +kernel

/-- R104: a fresh HELLO of a neighbour takes STANDBY to LINKING. -/
theorem test_hello_linking : (took (.hello 4 (helloOf true)) (at_ .standby 5 [])).path.state = .linking :=
    by decide +kernel

/-- R62: a station without the FEED role refuses a LAUNCH. -/
theorem test_launch_not_feed :
    (took (.launch 0 tag212) (at_ .run 5 [])).link.report = [fresh 0 (.notice (.refused 212 .notFeed))] :=
        by decide +kernel

/-- R12: anchored PICK_DELAY after receipt. -/
theorem test_launch :
    (took (.launch 0 tag212) (station { fuser with roles := { noRoles with feed :=
        true } } .run 95 [])).tracker.table.map
        (fun r => r.entryAnchor) = [100] := by decide +kernel

/-- 4.8 step 5: taken becomes yes, and the record stays. -/
theorem test_taken :
    (took (.taken 4 212) (at_ .run 14222 [outSheet 212 1 false])).tracker.table = [outSheet 212 1 true] :=
        by decide +kernel

/-- 1.9 step 4: a record whose trail has cleared is removed as a pass. -/
theorem test_taken_pass :
    (took (.taken 4 212) (at_ .run 14222 [outSheet 212 3 false])).counters.passed = 1 := by decide +kernel

/-- 2.7, a speed change: SPEED 1800 with sheets in the table is pending as 1600, with one clamp. -/
theorem test_speed :
    (took (.speed 0 1800) (at_ .run 5 [sheet 212 .inbound 0 0])).window
        = { timeBase := 5, crystal := 0, currentSpeed := some 400, pendingSpeed := some 1600 }
      ∧ (took (.speed 0 1800) (at_ .run 5 [sheet 212 .inbound 0 0])).counters.clamp = 1 := by decide +kernel

theorem test_resume :
    (took (.resume 0 10) (at_ .standby 5 [])).path.state = .run
      ∧ (took (.resume 0 9) (at_ .standby 5 [])).counters.refused = 1 := by decide +kernel

theorem test_query_status : (took (.queryStatus 0) (at_ .run 5 [])).link.report.length = 1 := by decide +kernel

/-- 8.8 step 5: the single part is queued again. -/
theorem test_query_census :
    (took (.queryCensus 0) (ran .stopSettleExpiry stopped)).link.report.length = 2 := by decide +kernel

/-- 5.9 step 4: station 2's JAM frame of rank 2 takes the exit station, of rank 4, from DECIDE to RUNOUT. -/
theorem test_jam_runs_out :
    (took (.jam 2 { kind := 4, sensor := 2, noSheet := false, sheetId := 216, rank := 2, epoch := 9 })
        (jammed (station exitStation .decide 40021 [sheet 211 .resident 1 0]) lineCapture 0)).path.state = .runout := by
  decide +kernel

/-- R145: a frame to station 4 is let by at station 3. -/
theorem test_let_by :
    (ran (.restart 0) (ran (.markedCharacter 4) (at_ .run 5 []))).path.state = .run := by decide +kernel

theorem test_untaken : (took (.untakenFrame 4 .notice [1, 0, 0, 0]) (at_ .run 5 [])).counters.refused = 1 :=
    by decide +kernel

/-! ## The Link Controller: 9.9 -/

/-- The queues of 9.9: HANDOFF 213 tried once, TAKEN 215, HANDOFF 214, and a SLIP notice. -/
def busy : State :=
  let tag (id : SheetId) : SheetTag := (sheet id .outbound 3 2).tag
  { levels (at_ .run 11950 [sheet 218 .resident 2 1]) [.clear, .covered] with
    link :=
      { Link.empty with
        path :=
          [{ dest := 4, body := .handoff (tag 213) 11950, retry := 1, started := true }, fresh 2 (.taken 215),
            fresh 4 (.handoff (tag 214) 11950)]
        report := [fresh 0 (.notice (.slip 213 2 3))] } }

/-- Step 1: the stall queues the JAM, and the flush removes the HANDOFF of sheet 214 alone. -/
theorem test_flush :
    (ran (.trailExpiry 218) busy).link.path = busy.link.path.take 2
      ∧ (ran (.trailExpiry 218) busy).link.urgent.length = 1 := by decide

/-- Step 3: HANDOFF 213, tried once, waits for 39 character times. -/
theorem test_gap_39 :
    (ran (.transmitStart 38) (idle 38 busy)).link.attempt = none
      ∧ (ran (.transmitStart 39) (idle 39 busy)).link.attempt.isSome = true := by
  decide

/-- Step 4: the TAKEN's gap is 23. -/
theorem test_gap_23 :
    (ran (.transmitStart 22) (idle 22 (paths (at_ .run 5 []) 1))).link.txEnable = false
      ∧ (ran (.transmitStart 23) (idle 23 (paths (at_ .run 5 []) 1))).link.txEnable = true := by decide

theorem test_collision :
    (ran .collision (ran (.transmitStart 39) (idle 39 busy))).link.path.map (fun e => e.retry) = [2, 0, 0]
      ∧ (ran .collision (ran (.transmitStart 39) (idle 39 busy))).counters.transmitRetry = 1 := by decide

theorem test_transmit_complete :
    (ran .transmitComplete (ran (.transmitStart 39) (idle 39 busy))).link.path = busy.link.path.drop 1 := by decide

/-- The end of 9.9: a fourth collision in STOPPING discards the frame without a LINK jam. -/
theorem test_discard :
    (ran .collision
        { at_ .stopping 5 [] with
          link :=
            { Link.empty with
              path := [{ dest := 4, body := .taken 213, retry := 3, started := true }]
              attempt := some { cls := .path, bytes := [] }
              txEnable := true } }).counters.transmitDiscard = 1 := by decide

theorem test_marked_mine : (ran (.markedCharacter 3) (at_ .run 5 [])).link.assembler = .taking := by decide
theorem test_marked_other : (ran (.markedCharacter 4) (at_ .run 5 [])).link.assembler = .passing := by decide

/-- R147: a CRC that differs, and a character whose stop bit is 0. -/
theorem test_abandon :
    (heard [0, 7, 1, 9, 0] (listening (at_ .run 5 []))).counters.receiveError = 1
      ∧ (ran (.frameAbandon (some { data := 0, mark := false, stop := false }))
          (listening (at_ .run 5 []))).link.assembler = .waiting := by
  decide +kernel

/-- R147, R148: a frame whose characters end with a good CRC reaches its owner, and the next frame's destination
abandons nothing. -/
theorem test_frame_by_characters :
    let s := ran (.markedCharacter 15)
      (heard [0, 7, 1, 10, crc8 [15, 0, 7, 1, 10]] (listening (at_ .standby 5 [])))
    s.path.state = .run ∧ s.counters.receiveError = 0 ∧ s.link.collecting = [15] := by decide +kernel

/-- R148: while a TAKEN is collected, a SPEED is not its end. -/
theorem test_other_frame :
    ran (.speed 0 800) (heard [0x6C, 5, 2] (listening (at_ .run 5 []))) = heard [0x6C, 5, 2] (listening (at_ .run 5 []))
    := by decide +kernel

/-- R170: a QUERY whose unused bits were sent as 1 asks for STATUS. -/
theorem test_unused_bits :
    (ran (.queryStatus 0) (heard [0, 9, 1, 0xFE] (listening (at_ .run 5 [])))).link.report.length = 1 :=
        by decide +kernel

theorem test_assembler_idle :
    (ran (.assemblerIdle 3) (idle 3 (ran (.markedCharacter 4) (at_ .run 5 [])))).link.assembler = .waiting
      ∧ (ran (.assemblerIdle 2) (idle 2 (ran (.markedCharacter 4) (at_ .run 5 [])))).link.assembler = .passing :=
          by decide

/-- R21: after 65535 the time base continues from 0, at the 400th crystal period and not before. -/
theorem test_tick_wraps :
    let late (periods : Nat) : State :=
      { at_ .run 65535 [] with window := { (at_ .run 65535 []).window with crystal := periods } }
    (after (step (late 399))).window.timeBase = 0
      ∧ (after (step (late 355))).window = { (late 355).window with crystal := 399 } := by decide

/-- R144: after a character time with no start bit the idle count has risen by one. -/
theorem test_idle_rises : (after (step (idle 38 (at_ .run 5 [])))).link.idleCount = 39 := by decide

/-! ## Witnesses: states and operands that meet the hypotheses of each statement, clause by clause -/

/-- A queue with one command in front. -/
def waiting (s : State) (c : Instr) : State :=
  { s with pending := [c] }

theorem witness_StepRunsFront : (waiting (at_ .run 5 []) .collision).pending = .collision :: [] := by decide

theorem witness_IdleStep :
    (State.reset.pending = [] ∧ State.reset.inReset = true)
      ∧ ((at_ .run 5 []).pending = [] ∧ (at_ .run 5 []).inReset = false ∧ (at_ .run 5 []).dueEvents = [])
      ∧ ((at_ .run 7740 [sheet 210 .resident 1 0]).dueEvents = [.leadExpiry 210])
      ∧ ((idle 23 (paths (at_ .run 5 []) 1)).dueEvents = [.transmitStart 23]) := by decide

/-- Straps 1, 14, 0 and 15, the ends of the two clauses. -/
theorem witness_ResetRelease :
    (State.reset.inReset = true ∧ State.reset.setup.profile = none ∧ State.reset.link.report = [])
      ∧ (1 ≤ (1 : BitVec 4).toNat ∧ (1 : BitVec 4).toNat ≤ 14) ∧ (1 ≤ (14 : BitVec 4).toNat
          ∧ (14 : BitVec 4).toNat ≤ 14)
      ∧ ((0 : BitVec 4) = 0 ∨ (0 : BitVec 4) = 15) ∧ ((15 : BitVec 4) = 0 ∨ (15 : BitVec 4) = 15) := by decide

/-- A station in RUN with two sheets, about to take the entry edge of the second. -/
def running : State :=
  waiting (at_ .run 4400 [sheet 210 .resident 1 0, sheet 211 .inbound 0 0]) (.rawEdge 0 .covered)

theorem witness_ControllerKept : (∃ t, step running = .next t) ∧ OutputsInv running ∧ TimersInv running :=
  ⟨⟨_, rfl⟩, by unfold OutputsInv; decide, by unfold TimersInv; decide⟩

theorem witness_CoverKept : CoverInv running ∧ ∃ t, step running = .next t :=
  ⟨by unfold CoverInv; decide, _, rfl⟩

theorem witness_ProfileKept : (∃ t, step running = .next t) ∧ ProfileInv running ∧ ProfileRanges running := by
  refine ⟨⟨_, rfl⟩, ⟨by decide, by decide, ?_, ?_, ?_⟩, by decide, ?_⟩
  · rintro v ⟨⟩; decide
  · rintro v ⟨⟩
  · rintro p ⟨⟩; decide
  · rintro p ⟨⟩
    refine ⟨by decide, by decide, by decide, ?_, ⟨3, rfl, by decide⟩, by decide, by decide, by decide⟩
    intro j h
    have hj : j = 0 ∨ j = 1 := by have : fuser.n = 3 := rfl; omega
    rcases hj with rfl | rfl <;> decide

theorem witness_JamItemsKept : JamInv running ∧ ∃ t, step running = .next t :=
  ⟨by unfold JamInv; decide, _, rfl⟩

/-- An attempt in progress, about to collide. -/
def sending : State :=
  waiting (ran (.transmitStart 39) (idle 39 (listening busy))) .collision

theorem witness_LinkKept : LinkInv sending ∧ ∃ t, step sending = .next t := by
  refine ⟨⟨?_, ?_, by decide, ?_, by decide, fun _ => ⟨by decide, by decide⟩⟩, _, rfl⟩
  · rintro (_ | _ | _) <;> decide
  · rintro (_ | _ | _) <;> decide
  · rintro a ⟨⟩; exact ⟨_, rfl, by decide⟩

theorem witness_TableKept : TableInv running ∧ ∃ t, step running = .next t := by
  refine ⟨⟨by decide, by decide, ?_, ?_, by decide, by decide, ?_, by decide⟩, _, rfl⟩
  · have h : [sheet 210 .resident 1 0, sheet 211 .inbound 0 0].Pairwise InOrder := by
      simp [List.pairwise_cons, InOrder, sheet, Record.isInbound]
    exact h
  · have h : ∀ r ∈ [sheet 210 .resident 1 0, sheet 211 .inbound 0 0], RecordShape 3 r := by
      simp [RecordShape, sheet]
    exact h
  · rintro p ⟨⟩; decide

theorem witness_StoresKept :
    (∃ t, step running = .next t) ∧ SpeedInv running ∧ EmptyInv running ∧ RunOutInv running ∧ ClocksInv running :=
  ⟨⟨_, rfl⟩, by unfold SpeedInv; decide, by unfold EmptyInv; decide, by unfold RunOutInv; decide,
    by unfold ClocksInv; decide⟩

theorem witness_DeadlinesKept : DeadlinesInv running ∧ ∃ t, step running = .next t := by
  refine ⟨⟨fun _ _ _ => by decide, by decide⟩, _, rfl⟩

theorem witness_SensorsKept : SensorsInv running ∧ ∃ t, step running = .next t := by
  refine ⟨⟨by decide, fun k => ⟨?_, ?_⟩⟩, _, rfl⟩
  · revert k; decide
  · intro c h
    have hn : ∀ j : Fin 4, running.front.sensors[j].candidate = none := by decide
    rw [hn k] at h
    cases h

theorem witness_ItemsNoCommandChanges :
    exec .collision (at_ .run 5 []) = .next (at_ .run 5 []) ∧ Instr.collision ≠ .hardwareReset :=
  ⟨rfl, by decide⟩

/-- A census formed, and a command that leaves it. -/
theorem witness_HeldItems :
    ProfileInv (ran .stopSettleExpiry stopped)
      ∧ exec .collision (ran .stopSettleExpiry stopped) = .next (ran .stopSettleExpiry stopped)
      ∧ (ran .stopSettleExpiry stopped).census.isSome = true
      ∧ (ran .stopSettleExpiry stopped).setup.profile = some fuser := by
  refine ⟨⟨by decide, by decide, ?_, ?_, ?_⟩, rfl, by decide, by decide⟩
  · rintro v ⟨⟩; decide
  · rintro v ⟨⟩
  · rintro p ⟨⟩; decide

theorem witness_StateDoors :
    let heard := listening (at_ .standby 5 [])
    (exec (.resume 0 10) heard = .next (ran (.resume 0 10) heard) ∧ heard.path.state ≠ .run
        ∧ (ran (.resume 0 10) heard).path.state = .run)
      ∧ exec .collision (at_ .lockout 5 []) = .next (at_ .lockout 5 [])
      ∧ (at_ .lockout 5 []).path.state = .lockout :=
  ⟨⟨rfl, by decide, by decide +kernel⟩, rfl, by decide⟩

theorem witness_CountersNeverFall :
    Instr.collision ≠ .hardwareReset ∧ exec .collision (at_ .run 5 []) = .next (at_ .run 5 []) :=
  ⟨by decide, rfl⟩

theorem witness_LastDeliveredHeld :
    ∃ t, exec (.rawEdge 2 .clear) (levels (at_ .run 11700 [traySheet 210 2]) [.clear, .clear, .covered]) = .next t :=
  ⟨_, rfl⟩

theorem witness_DecodeEncode :
    (Instr.resume 0 9).WellFormed = true
      ∧ encodeFrame 15 (.resume 0 9) = some (frameBytes 15 0 .resume [9]) := ⟨rfl, rfl⟩

/-- Census parts of no entry and of eight, the second of two with a last-delivered tag; and a STATUS with station 2
alone configured and SNS1 alone COVERED. -/
theorem witness_SentFrames :
    let tag : SheetTag := (sheet 1 .outbound 3 3).tag
    let part (n number : Nat) (last : Option SheetTag) : CensusPart :=
      { header := { (stopped.formCensus false).header with lastDelivered := last }, total := 8 + n, number := number,
        parts := 2, entries := List.replicate n (stopped.deliveredEntry tag) }
    let c : StatusContents :=
      { (levels (at_ .run 5 []) [.clear, .covered]).statusNow with
        configured := (Vector.replicate 14 false).set 1 true }
    ((part 0 1 none).entries.length ≤ 8 ∧ (part 8 2 (some tag)).entries.length ≤ 8)
      ∧ ((part 8 2 (some tag)).header.cause = some .own ∧ 1 ≤ (part 0 1 none).number
        ∧ (part 8 2 (some tag)).number ≤ 2 ∧ 1 ≤ (part 0 1 none).parts ∧ (part 8 2 (some tag)).parts ≤ 2
        ∧ (∀ e ∈ (part 8 2 (some tag)).entries, e.tag.length < 8192) ∧ tag.length < 8192)
      ∧ ((∀ k < 16, (4 : BitVec 16).getLsbD k
            = (decide (1 ≤ k ∧ k ≤ 14) && c.configured.toList.getD (k - 1) false))
        ∧ (∀ k : Fin 4, (0x32 : BitVec 8).getLsbD k.val = decide (c.levels[k] = .covered))
        ∧ (0x32 : BitVec 8).getLsbD 4 = decide (c.cover = .closed) ∧ (0x32 : BitVec 8).getLsbD 5 = c.lineHigh
        ∧ (0x32 : BitVec 8).getLsbD 6 = false ∧ (0x32 : BitVec 8).getLsbD 7 = false) := by decide +kernel

theorem witness_PeersReadWhatIsSent :
    (3 < 256 ∧ 255 < 256) ∧ ((sheet 212 .outbound 3 2).tag.length ≤ 6000 ∧ 6000 ≤ 6000)
      ∧ (1 ≤ 1 ∧ 14 ≤ 14) ∧ ∀ k, (none : Option Nat) = some k → k ≤ 3 := by
  refine ⟨by decide, by decide, by decide, ?_⟩
  rintro k ⟨⟩

theorem witness_TransitRoundsUp : (50 ≤ 50 ∧ 50 ≤ 1600) ∧ (50 ≤ 1600 ∧ 1600 ≤ 1600) := by decide

/-- The two sides of the edge at 30000: the windows of 2.7 and one tick beyond. -/
theorem witness_WindowBounds : (25000 + 5000 ≤ 30000) ∧ (30000 < 25000 + 5001) := by decide

/-! ### Sensors -/

/-- Sensor 3 of the fuser is followed; sensor 1 of `bounced` is FILTERED. -/
theorem witness_SamplesTaken :
    ((at_ .run 5 []).inReset = false ∧ (at_ .run 5 []).front.sensors[3].mode = .followed)
      ∧ ((bounced 7500 .run none).front.sensors[1].mode = .filtered
        ∧ (bounced 7500 .run none).front.sensors[1].candidate = none
        ∧ Level.clear = (bounced 7500 .run none).front.sensors[1].stable
        ∧ Level.covered ≠ (bounced 7500 .run none).front.sensors[1].stable)
      ∧ ((bounced 7503 .run (some 7500)).inReset = false
        ∧ (bounced 7503 .run (some 7500)).front.sensors[1].mode = .filtered
        ∧ (bounced 7503 .run (some 7500)).front.sensors[1].candidate = some { level := .covered, start := 7500 }
        ∧ Level.clear = (bounced 7503 .run (some 7500)).front.sensors[1].stable
        ∧ Level.covered ≠ (bounced 7503 .run (some 7500)).front.sensors[1].stable)
      ∧ (CoverLevel.closed = (at_ .run 5 []).front.cover.level ∧ CoverLevel.opened ≠ (at_ .run 5 []).front.cover.level
        ∧ (at_ .run 5 []).front.cover.candidate = none)
      ∧ (covered (at_ .run 5 []) .closed (some { level := .opened, start := 1 })).front.cover.candidate ≠ none := by
  decide

/-- FILTER is 8: a candidate from 7504 is confirmed at 7511 and not at 7510. -/
theorem witness_EdgesHandedOn :
    ((bounced 7511 .run (some 7504)).inReset = false
        ∧ (bounced 7511 .run (some 7504)).front.sensors[1].mode = .filtered
        ∧ (bounced 7511 .run (some 7504)).front.sensors[1].candidate = some { level := .covered, start := 7504 }
        ∧ reached (bounced 7511 .run (some 7504)).window.timeBase
            (7504 + BitVec.ofNat 16 ((bounced 7511 .run (some 7504)).prof.filter - 1)) = true)
      ∧ (bounced 7511 .run none).front.sensors[1].candidate = none
      ∧ reached (bounced 7510 .run (some 7504)).window.timeBase
          (7504 + BitVec.ofNat 16 ((bounced 7510 .run (some 7504)).prof.filter - 1)) = false
      ∧ ((at_ .run 5 []).front.sensors[0].mode = .raw ∧ Level.covered ≠ (at_ .run 5 []).front.sensors[0].stable
        ∧ Level.clear = (at_ .run 5 []).front.sensors[0].stable) := by decide

/-- The neighbours of a station whose roster is blank are not known. -/
def strangers (s : State) : State :=
  { s with setup := { s.setup with roster := Vector.replicate 14 RosterEntry.blank } }

theorem witness_EdgesAtRest :
    ((at_ .held 5 []).path.state = .held)
      ∧ ((levels (at_ .standby 5 []) [.clear, .covered]).path.state = .standby
        ∧ (levels (at_ .standby 5 []) [.clear, .covered]).front.cover.level = .closed
        ∧ (levels (at_ .standby 5 []) [.clear, .covered]).sensorsClear = false)
      ∧ ((levels (at_ .verify 5 []) [.clear, .clear, .covered]).path.state = .verify
        ∧ (levels (at_ .verify 5 []) [.clear, .clear, .covered]).front.cover.level = .closed
        ∧ (levels (at_ .verify 5 []) [.clear, .clear, .covered]).sensorsClear = false)
      ∧ ((at_ .linking 5 []).path.state = .linking
        ∧ (∀ m ∈ (at_ .linking 5 []).prof.neighbours, ((at_ .linking 5 []).rosterEntry m).configured = true)
        ∧ (at_ .linking 5 []).front.cover.level = .closed
        ∧ ∀ j < (at_ .linking 5 []).prof.n, (at_ .linking 5 []).stableLevel j = .clear)
      ∧ ((∃ m ∈ (strangers (at_ .linking 5 [])).prof.neighbours,
            ((strangers (at_ .linking 5 [])).rosterEntry m).configured = false)
        ∧ (covered (at_ .linking 5 []) .opened none).front.cover.level = .opened
        ∧ ∃ j < (levels (at_ .linking 5 []) [.clear, .clear, .covered]).prof.n,
            (levels (at_ .linking 5 []) [.clear, .clear, .covered]).stableLevel j = .covered) := by decide

/-! ### Edges and sheets -/

/-- An INBOUND sheet not yet to be expected, in front of one that is. -/
def early (id : SheetId) : Machine.Record :=
  { sheet id .inbound 0 0 with leadWindow := some { leadWin with early := 9000 } }

/-- An INBOUND sheet that can be caught at 4400. -/
def dueIn (id : SheetId) : Machine.Record :=
  { sheet id .inbound 0 0 with leadWindow := some { leadWin with early := 4400 } }

/-- The fuser with one sensor. -/
def short_ (st : PathState) (table : List Machine.Record) : State :=
  station { fuser with n := 1, positions := [0], modes := [.raw] } st 4400 table

/-- The capture 4400 is at the early tick of sheet 213, and before that of sheet 212 in front of it; the same sheet may
come of a LAUNCH. -/
theorem witness_EntryLeadMatched :
    let s := paths (at_ .run 4400 ([sheet 210 .resident 2 0, early 212] ++ dueIn 213 :: [sheet 214 .inbound 0 0])) 8
    matchingState s.path.state = true ∧ 1 < s.prof.n
      ∧ s.tracker.table = [sheet 210 .resident 2 0, early 212] ++ dueIn 213 :: [sheet 214 .inbound 0 0]
      ∧ ((dueIn 213).phase = .inbound ∧ (dueIn 213).leadIndex = 0 ∧ (dueIn 213).trailIndex = 0
        ∧ (dueIn 213).leadCaptures = [] ∧ (dueIn 213).leadWindow = some { leadWin with early := 4400 })
      ∧ (∀ x ∈ [sheet 210 .resident 2 0, early 212], x.phase = .inbound →
          s.path.state ≠ .stopping ∧ ∃ v, x.leadWindow = some v ∧ before 4400 v.early = true)
      ∧ inTime s { leadWin with early := 4400 } 4400
      ∧ ({ dueIn 213 with source := .launch }.source = Source.launch) := by
  refine ⟨by decide, by decide, by decide, by decide, ?_, .inr (by decide), by decide⟩
  simp only [List.forall_mem_cons]
  exact ⟨by decide, fun _ => ⟨by decide, _, rfl, by decide⟩, by simp⟩

/-- The clauses in order: a DELIVERY station, a HANDOFF with seven frames waiting, and the gate set for B. -/
theorem witness_OneSensorEntry :
    let r := dueIn 213
    let hyps (s : State) :=
      matchingState s.path.state = true ∧ s.prof.n = 1 ∧ s.tracker.table = [] ++ r :: []
        ∧ inTime s { leadWin with early := 4400 } 4400
    (r.phase = .inbound ∧ r.leadIndex = 0 ∧ r.trailIndex = 0 ∧ r.leadCaptures = []
        ∧ r.leadWindow = some { leadWin with early := 4400 } ∧ r.outputBound = none ∧ r.taken = none ∧ r.takeDue = none)
      ∧ (hyps (station { exitStation with n := 1 } .run 4400 [r])
        ∧ r.exit = (station { exitStation with n := 1 } .run 4400 [r]).tracker.gate ∧ r.exit = .a
        ∧ (station { exitStation with n := 1 } .run 4400 [r]).prof.roles.delivery = true)
      ∧ (hyps (paths (short_ .runout [r]) 7) ∧ r.exit = (short_ .runout [r]).tracker.gate
        ∧ ¬(r.exit = .a ∧ (short_ .runout [r]).prof.roles.delivery = true))
      ∧ (hyps (gated (short_ .decide [r]) .b) ∧ r.exit ≠ (gated (short_ .decide [r]) .b).tracker.gate) := by
  unfold inTime; decide

theorem witness_InnerLeadMatched :
    let s := at_ .run 7060 ([sheet 209 .resident 2 0] ++ sheet 210 .resident 1 0 :: [sheet 211 .resident 1 0])
    let r := sheet 210 .resident 1 0
    matchingState s.path.state = true ∧ 1 ≤ 1 ∧ 1 + 1 < s.prof.n
      ∧ s.tracker.table = [sheet 209 .resident 2 0] ++ r :: [sheet 211 .resident 1 0]
      ∧ (∀ x ∈ [sheet 209 .resident 2 0], ¬(x.phase ≠ .inbound ∧ x.leadIndex = 1))
      ∧ r.phase ≠ .inbound ∧ r.leadIndex = 1 ∧ r.leadCaptures.length = 1 ∧ r.leadWindow = some leadWin
      ∧ inTime s leadWin 7060 := by
  unfold inTime; decide

/-- The clauses in order: the gate set for B in RUN, a DELIVERY station, and a HANDOFF with the PATH queue full in
STOPPING. -/
theorem witness_ExitLeadMatched :
    let r := sheet 210 .resident 2 1
    let hyps (s : State) :=
      matchingState s.path.state = true ∧ 1 ≤ 2 ∧ 2 + 1 = s.prof.n ∧ s.tracker.table = [] ++ r :: []
        ∧ inTime s leadWin 11950
    (r.phase = .resident ∧ r.leadIndex = 2 ∧ r.trailIndex ≤ 2 ∧ r.leadCaptures.length = 2 ∧ r.leadWindow = some leadWin
        ∧ r.outputBound = none ∧ r.taken = none ∧ r.takeDue = none)
      ∧ (hyps (gated (at_ .run 11950 [r]) .b) ∧ r.exit ≠ (gated (at_ .run 11950 [r]) .b).tracker.gate)
      ∧ (hyps (station exitStation .runout 11950 [r])
        ∧ r.exit = (station exitStation .runout 11950 [r]).tracker.gate ∧ r.exit = .a
        ∧ (station exitStation .runout 11950 [r]).prof.roles.delivery = true)
      ∧ (hyps (paths (at_ .stopping 11950 [r]) 8) ∧ r.exit = (paths (at_ .stopping 11950 [r]) 8).tracker.gate
        ∧ ¬(r.exit = .a ∧ (paths (at_ .stopping 11950 [r]) 8).prof.roles.delivery = true)) := by
  unfold inTime; decide

/-- At level TRACE with five notices waiting: an entry LEAD, an inner LEAD and a TRAIL that match. -/
theorem witness_MatchNotices :
    let traced (now : Tick) (table : List Machine.Record) : State :=
      reports (station { fuser with report := .trace } .run now table) 5
    (matchingState (traced 4400 []).path.state = true
        ∧ ¬((traced 4400 []).path.state = .runout ∧ (traced 4400 []).prof.escalation = .lockout)
        ∧ (traced 4400 []).link.urgent.length < 2 ∧ (traced 4400 []).strapFault = false)
      ∧ ((traced 4400 ([sheet 210 .resident 2 0] ++ dueIn 213 :: [])).tracker.table
          = [sheet 210 .resident 2 0] ++ dueIn 213 :: []
        ∧ (dueIn 213).phase = .inbound ∧ (∀ x ∈ [sheet 210 .resident 2 0], x.phase ≠ .inbound)
        ∧ (dueIn 213).leadWindow = some { leadWin with early := 4400 }
        ∧ inTime (traced 4400 []) { leadWin with early := 4400 } 4400)
      ∧ ((sheet 210 .resident 1 0).phase ≠ .inbound ∧ (sheet 210 .resident 1 0).leadIndex = 1
        ∧ (sheet 210 .resident 1 0).leadWindow = some leadWin ∧ inTime (traced 7060 []) leadWin 7060)
      ∧ ((sheet 210 .resident 2 0).trailIndex = 0 ∧ 0 < (sheet 210 .resident 2 0).leadIndex
        ∧ (sheet 210 .resident 2 0).trailWindow = some trailWin ∧ inTime (traced 11700 []) trailWin 11700)
      ∧ ({ leadWin with due := none } : Machine.Window).due = none
      ∧ leadWin.due = some { tick := 7740, armedAt := 4400 } ∧ 32767 ≤ 32767 := by
  unfold inTime; decide

theorem witness_LeadsUnmatched :
    let none_ := at_ .run 4400 [sheet 210 .resident 2 0]
    let early0 := at_ .decide 4400 ([sheet 210 .resident 2 0] ++ early 212 :: [])
    let early1 := at_ .run 7059 ([sheet 209 .resident 2 0] ++ sheet 210 .resident 1 0 :: [])
    (matchingState none_.path.state = true ∧ ∀ x ∈ none_.tracker.table, x.phase ≠ .inbound)
      ∧ (matchingState early0.path.state = true ∧ early0.path.state ≠ .stopping
        ∧ early0.tracker.table = [sheet 210 .resident 2 0] ++ early 212 :: []
        ∧ (∀ x ∈ [sheet 210 .resident 2 0], x.phase ≠ .inbound) ∧ (early 212).phase = .inbound
        ∧ before 4400 9000 = true)
      ∧ (∀ x ∈ early0.tracker.table, x.phase = .inbound →
          ∃ v, x.leadWindow = some v ∧ before 4400 v.early = true)
      ∧ (∀ x ∈ none_.tracker.table, ¬(x.phase ≠ .inbound ∧ x.leadIndex = 1))
      ∧ (matchingState early1.path.state = true ∧ early1.path.state ≠ .stopping
        ∧ early1.tracker.table = [sheet 209 .resident 2 0] ++ sheet 210 .resident 1 0 :: []
        ∧ (∀ x ∈ [sheet 209 .resident 2 0], ¬(x.phase ≠ .inbound ∧ x.leadIndex = 1))
        ∧ (sheet 210 .resident 1 0).phase ≠ .inbound ∧ (sheet 210 .resident 1 0).leadIndex = 1
        ∧ (sheet 210 .resident 1 0).leadWindow = some leadWin ∧ before 7059 leadWin.early = true)
      ∧ (matchingState (at_ .stopping 4400 [sheet 210 .resident 2 0]).path.state = true
        ∧ ∀ x ∈ (at_ .stopping 4400 [sheet 210 .resident 2 0]).tracker.table, x.phase ≠ .inbound) := by
  refine ⟨by decide, by decide, ?_, by decide, by decide, by decide⟩
  have h : ∀ x ∈ [sheet 210 .resident 2 0, early 212], x.phase = .inbound →
      ∃ v, x.leadWindow = some v ∧ before 4400 v.early = true := by
    simp only [List.forall_mem_cons]
    exact ⟨by decide, fun _ => ⟨_, rfl, by decide⟩, by simp⟩
  exact h

/-- The clauses in order: a sheet with captures ahead, one at its last sensor, a delivery and a pass, and the same two
as the last sheets of a run-out. -/
theorem witness_TrailsMatched :
    let hyps (s : State) (k : Nat) (r : Machine.Record) :=
      matchingState s.path.state = true ∧ s.tracker.table = [] ++ r :: []
        ∧ r.trailIndex = k ∧ k < r.leadIndex ∧ r.leadIndex ≤ s.prof.n ∧ r.trailWindow = some trailWin
        ∧ inTime s trailWin 11700
    (hyps (at_ .run 11700 [sheet 210 .resident 2 0]) 0 (sheet 210 .resident 2 0)
        ∧ 0 + 1 < (sheet 210 .resident 2 0).leadIndex)
      ∧ (hyps (at_ .run 11700 [sheet 210 .resident 1 0]) 0 (sheet 210 .resident 1 0)
        ∧ 0 + 1 = (sheet 210 .resident 1 0).leadIndex ∧ 0 + 1 < (at_ .run 11700 [sheet 210 .resident 1 0]).prof.n)
      ∧ (hyps (at_ .run 11700 [outSheet 210 2 false]) 2 (outSheet 210 2 false)
        ∧ 2 + 1 = (outSheet 210 2 false).leadIndex ∧ (outSheet 210 2 false).taken ≠ some true)
      ∧ (hyps (at_ .run 11700 [traySheet 210 2]) 2 (traySheet 210 2)
        ∧ hyps (at_ .runout 11700 [traySheet 210 2]) 2 (traySheet 210 2)
        ∧ (traySheet 210 2).phase = .outbound ∧ (traySheet 210 2).outputBound = some true)
      ∧ (hyps (at_ .stopping 11700 [outSheet 210 2 true]) 2 (outSheet 210 2 true)
        ∧ hyps (at_ .runout 11700 [outSheet 210 2 true]) 2 (outSheet 210 2 true)
        ∧ (outSheet 210 2 true).phase = .outbound ∧ (outSheet 210 2 true).outputBound ≠ some true
        ∧ (outSheet 210 2 true).taken = some true) := by
  unfold inTime
  refine ⟨?_, ?_, ?_, ?_, ?_⟩ <;> decide

theorem witness_TrailsUnmatched :
    let s := at_ .run 11699 ([sheet 209 .resident 2 1] ++ sheet 210 .resident 2 0 :: [])
    (matchingState s.path.state = true ∧ ∀ x ∈ s.tracker.table, ¬(x.trailIndex = 2 ∧ 2 < x.leadIndex))
      ∧ (s.path.state ≠ .stopping
        ∧ s.tracker.table = [sheet 209 .resident 2 1] ++ sheet 210 .resident 2 0 :: []
        ∧ (∀ x ∈ [sheet 209 .resident 2 1], ¬(x.trailIndex = 0 ∧ 0 < x.leadIndex))
        ∧ (sheet 210 .resident 2 0).trailIndex = 0 ∧ 0 < (sheet 210 .resident 2 0).leadIndex
        ∧ (sheet 210 .resident 2 0).trailWindow = some trailWin ∧ before 11699 trailWin.early = true) := by
  decide

/-! ### The cover, the line, deadlines and timers -/

/-- A cover candidate of 50 ticks at tick 149. -/
def confirming (s : State) (l : CoverLevel) : State :=
  covered s (if l = .closed then .opened else .closed) (some { level := l, start := 100 })

/-- The own capture of an earlier event of the epoch. -/
def ownStall : Capture :=
  { cause := .own, kind := some .stall, sensor := some 1, sheetId := some 214, origin := some 3, rank := some 3 }

/-- A state whose JAM frame of the epoch has gone. -/
def jamSentIn (s : State) : State :=
  { s with jam := { s.jam with jamSent := true } }

theorem witness_CoverConfirmed :
    let open_ (st : PathState) := confirming (at_ st 149 []) .opened
    let close (st : PathState) := confirming (at_ st 149 []) .closed
    ((open_ .run).inReset = false
        ∧ (open_ .run).front.cover.candidate = some { level := .opened, start := 100 }
        ∧ (close .clearing).front.cover.candidate = some { level := .closed, start := 100 }
        ∧ reached (open_ .run).window.timeBase (100 + 49) = true)
      ∧ (FirstJam (open_ .run) ∧ JamRoom (open_ .run) ∧ FirstJam (jammed (open_ .decide) lineCapture 0))
      ∧ ((open_ .runout).path.state = .runout ∧ (open_ .standby).path.state = .standby
        ∧ (open_ .lockout).path.state = .lockout)
      ∧ ((close .clearing).sensorsClear = true
        ∧ (levels (close .clearing) [.covered]).sensorsClear = false)
      ∧ ((close .linking).neighboursKnown = true ∧ (close .linking).sensorsClear = true
        ∧ (strangers (close .linking)).neighboursKnown = false)
      ∧ ((close .unconfigured).path.state ≠ .clearing ∧ (close .unconfigured).path.state ≠ .linking) := by
  unfold FirstJam JamRoom; decide

theorem witness_LineSamples :
    ((at_ .run 5 []).inReset = false ∧ (at_ .run 5 []).path.state = .run
        ∧ ((at_ .run 5 []).path.hold = true ∨ true = true))
      ∧ (¬((at_ .run 5 []).path.hold = true ∨ false = true)) ∧ (at_ .standby 5 []).path.state ≠ .run
      ∧ State.reset.inReset = true := by decide

/-- At its due tick a deadline expires, one tick before it does not, and neither does one armed at this tick. -/
theorem witness_DeadlinesExpire :
    let r := sheet 210 .resident 1 0
    let o := outSheet 211 3 false
    let d : Deadline := { tick := 7740, armedAt := 4400 }
    let s := at_ .run 7740 ([o] ++ r :: [])
    (s.inReset = false ∧ s.tracker.table = [o] ++ r :: [] ∧ (∀ x ∈ [o], x.tag.sheetId ≠ r.tag.sheetId))
      ∧ (r.leadWindow = some leadWin ∧ leadWin.due = some d ∧ reached s.window.timeBase d.tick = true
        ∧ d.armedAt ≠ s.window.timeBase ∧ armingState s.path.state = true ∧ FirstJam s ∧ JamRoom s)
      ∧ (armingState (at_ .stopping 7740 [r]).path.state = false)
      ∧ (¬(reached (7739 : Tick) d.tick = true ∧ d.armedAt ≠ 7739))
      ∧ (¬(reached (4400 : Tick) 4400 = true ∧ (4400 : Tick) ≠ 4400))
      ∧ (r.trailWindow = some trailWin ∧ trailWin.due = some { tick := 11950, armedAt := 4400 }
        ∧ reached (at_ .run 11950 [r]).window.timeBase 11950 = true
        ∧ (levels (at_ .run 11950 [r]) [.covered]).stableLevel r.trailIndex = .covered
        ∧ (at_ .runout 11950 [r]).stableLevel r.trailIndex = .clear)
      ∧ (o.takeDue = some { tick := 14495, armedAt := 11950 } ∧ o.taken = some false
        ∧ (outSheet 211 1 true).taken = some true
        ∧ reached (at_ .run 14495 [o]).window.timeBase 14495 = true) := by
  unfold FirstJam JamRoom; decide

/-- An eligible station: rank 3 above a JAM frame of rank 2, at the fuser. -/
def eligibleAt (st : PathState) (table : List Machine.Record) : State :=
  timed (jammed (at_ st 40047 table) { ownStall with cause := .remote } 2) 40047

theorem witness_DecideEnds :
    ((eligibleAt .decide [sheet 210 .resident 1 0]).inReset = false
        ∧ (eligibleAt .decide [sheet 210 .resident 1 0]).path.state = .decide
        ∧ (eligibleAt .decide [sheet 210 .resident 1 0]).path.decideTimer = some 40047
        ∧ reached (eligibleAt .decide []).window.timeBase 40047 = true
        ∧ (eligibleAt .decide [sheet 210 .resident 1 0]).eligible = true
        ∧ (eligibleAt .decide [sheet 210 .resident 1 0]).holdsSheets = true)
      ∧ ((timed (at_ .decide 40047 []) 40047).eligible = false ∧ (eligibleAt .decide []).holdsSheets = false)
      ∧ ((at_ .run 5 []).path.state ≠ .decide ∧ (at_ .decide 5 []).path.decideTimer = none
        ∧ (timed (at_ .decide 40046 []) 40047).path.decideTimer = some 40047
        ∧ reached (timed (at_ .decide 40046 []) 40047).window.timeBase 40047 = false) := by decide

theorem witness_StopSettles :
    (reports stopped 4).inReset = false ∧ (reports stopped 4).path.state = .stopping
      ∧ (reports stopped 4).path.stopSettle = some 5600 ∧ reached (reports stopped 4).window.timeBase 5600 = true
      ∧ (reports stopped 4).census = none := by decide

theorem witness_CoverSettles :
    let s := reports (timed (at_ .verify 9600 [sheet 213 .resident 1 0]) 9600) 5
    s.inReset = false ∧ s.path.state = .verify ∧ s.path.coverSettle = some 9600
      ∧ reached s.window.timeBase 9600 = true := by decide

/-! ### Frames -/

/-- Both outcomes of LINKING entry: with the roster blank the station waits, with it known and the cover CLOSED it is
ready. -/
theorem witness_SetupAccepted :
    let s := listening (reports (bare 3) 5)
    let ready := { covered s .closed none with setup := (at_ .run 5 []).setup }
    Awaits s (.setup 0 setupFuser)
      ∧ (s.inReset = false ∧ s.stationNumber = some 3 ∧ s.path.state = .unconfigured
        ∧ setupFaulty 3 setupFuser = false)
      ∧ (ready.stationNumber = some 3 ∧ (∀ m ∈ [2, 0, 4, 0], m ≠ 0 → (ready.rosterEntry m).configured = true)
        ∧ ready.front.cover.level = .closed ∧ ∀ k < 3, ready.stableLevel k = .clear)
      ∧ ((s.rosterEntry 2).configured = false) :=
  ⟨awaits_listening _ (fun _ => rfl), by decide⟩

/-- A feeder with a table. -/
def feeder (table : List Machine.Record) : State :=
  station { fuser with roles := { noRoles with feed := true } } .run 95 table

/-- The refusals in order, in a state that reports, one whose REPORT queue is full and one with a strap fault; and an
acceptance. -/
theorem witness_LaunchJudged :
    let early := listening (reports (at_ .standby 5 []) 5)
    let full := listening (reports (at_ .standby 5 []) 6)
    (∀ s ∈ [early, full, listening (bare 15), listening (at_ .run 5 []), listening (feeder (queueOf 7))],
        Awaits s (.launch 0 tag212) ∧ Awaits s (.launch 1 tag212))
      ∧ (early.inReset = false ∧ early.path.state ≠ .run ∧ early.strapFault = false ∧ early.link.report.length < 6)
      ∧ (6 ≤ full.link.report.length ∧ (listening (bare 15)).strapFault = true ∧ (1 : Byte) ≠ 0)
      ∧ ((listening (at_ .run 5 [])).path.state = .run ∧ (listening (at_ .run 5 [])).prof.roles.feed = false)
      ∧ ((feeder (queueOf 8)).prof.roles.feed = true ∧ 8 ≤ (feeder (queueOf 8)).tracker.table.length)
      ∧ ((feeder (queueOf 7)).tracker.table.length < 8
        ∧ (∃ r ∈ (feeder (queueOf 7)).tracker.table, r.tag.sheetId = 106)
        ∧ ¬∃ r ∈ (feeder (queueOf 7)).tracker.table, r.tag.sheetId = tag212.sheetId) := by
  refine ⟨?_, by decide⟩
  simp only [List.forall_mem_cons]
  exact ⟨⟨awaits_listening _ (fun _ => rfl), awaits_listening _ (fun _ => rfl)⟩, ⟨awaits_listening _ (fun _ => rfl),
      awaits_listening _ (fun _ => rfl)⟩,
    ⟨awaits_listening _ (fun _ => rfl), awaits_listening _ (fun _ => rfl)⟩, ⟨awaits_listening _ (fun _ => rfl),
      awaits_listening _ (fun _ => rfl)⟩,
    ⟨awaits_listening _ (fun _ => rfl), awaits_listening _ (fun _ => rfl)⟩, by simp⟩

theorem witness_SpeedTaken :
    let s := listening (at_ .run 5 [])
    (Awaits s (.speed 1 800) ∧ Awaits (listening (bare 3)) (.speed 0 800) ∧ Awaits s (.speed 0 800))
      ∧ (s.inReset = false ∧ ((1 : Byte) ≠ 0 ∨ s.path.state = .unconfigured)
        ∧ (listening (bare 3)).path.state = .unconfigured)
      ∧ (s.path.state ≠ .unconfigured ∧ s.tracker.table = [])
      ∧ (listening (at_ .run 5 [sheet 212 .inbound 0 0])).tracker.table ≠ [] :=
  ⟨⟨awaits_listening _ (fun _ => rfl), awaits_listening _ (fun _ => rfl), awaits_listening _ (fun _ => rfl)⟩, by decide⟩

theorem witness_ResumeJudged :
    let s := listening (at_ .standby 5 [])
    (Awaits s (.resume 0 10) ∧ Awaits s (.resume 0 9))
      ∧ (s.inReset = false ∧ s.path.state = .standby ∧ s.path.lineHigh = true ∧ (10 : Byte) ≠ s.path.epoch)
      ∧ ¬((9 : Byte) ≠ s.path.epoch) ∧ EmptyInv s :=
  ⟨⟨awaits_listening _ (fun _ => rfl), awaits_listening _ (fun _ => rfl)⟩, by unfold EmptyInv; decide⟩

theorem witness_Restarted :
    (Awaits (listening (bare 15)) (.restart 0) ∧ Awaits (listening (at_ .run 5 [])) (.restart 0))
      ∧ ((listening (bare 15)).inReset = false ∧ (listening (bare 15)).strapFault = true)
      ∧ (listening (at_ .run 5 [])).strapFault = false :=
  ⟨⟨awaits_listening _ (fun _ => rfl), awaits_listening _ (fun _ => rfl)⟩, by decide⟩

theorem witness_StatusAnswered :
    let s (n : Nat) := listening (reports (at_ .run 5 []) n)
    (Awaits (s 5) (.queryStatus 0) ∧ Awaits (s 6) (.queryStatus 0))
      ∧ ((s 5).inReset = false ∧ (s 5).strapFault = false ∧ (s 5).link.report.length < 6)
      ∧ 6 ≤ (s 6).link.report.length :=
  ⟨⟨awaits_listening _ (fun _ => rfl), awaits_listening _ (fun _ => rfl)⟩, by decide⟩

/-- The eviction of 8.8: a SLIP notice on its way and five notices behind it. -/
theorem witness_CensusAnswered :
    let unformed := listening (at_ .held 5 [])
    let formed := listening (reports (ran .stopSettleExpiry stopped) 4)
    let onAir : Entry := { fresh 0 (.notice (.clear 0 0 .standby)) with started := true }
    let plain : Entry := fresh 0 (.notice (.clear 0 0 .standby))
    let full := reports (at_ .held 5 []) 6
    let stuck : State := { full with link := { full.link with report := List.replicate 6 onAir } }
    (Awaits unformed (.queryCensus 0) ∧ Awaits formed (.queryCensus 0))
      ∧ (unformed.inReset = false ∧ unformed.census = none)
      ∧ (formed.inReset = false ∧ formed.census.isSome = true ∧ formed.strapFault = false
        ∧ formed.link.report.length ≤ 4)
      ∧ (List.replicate 16 (stopped.deliveredEntry (sheet 1 .outbound 3 3).tag)).length ≤ 16
      ∧ (full.strapFault = false ∧ 6 ≤ full.link.report.length
        ∧ full.link.report = List.replicate 5 plain ++ plain :: [] ∧ plain.isCensus = false ∧ plain.started = false)
      ∧ (6 ≤ stuck.link.report.length ∧ ∀ x ∈ stuck.link.report, x.isCensus = true ∨ x.started = true) :=
  ⟨⟨awaits_listening _ (fun _ => rfl), awaits_listening _ (fun _ => rfl)⟩, by decide⟩

/-- A waiting reply. -/
def replying (s : State) : State :=
  { s with
    link :=
      { s.link with
        report :=
          [fresh 15
            (.hello
              { fresh := false, configured := false, rank := 0, roles := noRoles, sensorCount := 0,
                exitB := false })] } }

/-- Sources 1 and 14 are stations, 0 and 15 are not, 3 is the station itself; 4 is a neighbour of the fuser. -/
theorem witness_HellosTaken :
    let heard := listening (at_ .run 5 [])
    let blankEntry : RosterEntry := { configured := false, rank := 1, roles := noRoles }
    (∀ st, ∀ source : Byte, Awaits (listening (at_ st 5 [])) (.hello source (helloOf true))
        ∧ Awaits (listening (at_ st 5 [])) (.hello source (helloOf false)))
      ∧ (heard.inReset = false ∧ heard.stationNumber = some (3 : Byte).toNat)
      ∧ (heard.stationNumber ≠ some (0 : Byte).toNat ∧ (0 : Byte).toNat = 0 ∧ 14 < (15 : Byte).toNat)
      ∧ (heard.stationNumber ≠ some (1 : Byte).toNat ∧ 1 ≤ (1 : Byte).toNat ∧ (14 : Byte).toNat ≤ 14)
      ∧ ((helloOf true).fresh = true ∧ heard.link.report.any Entry.waitingHello = false
        ∧ (replying heard).link.report.any Entry.waitingHello = true)
      ∧ (heard.path.state = .run ∧ (4 : Byte).toNat = heard.prof.exitA
        ∧ ¬((helloOf false).fresh = true))
      ∧ ((listening (at_ .standby 5 [])).path.state = .standby
          ∧ ((listening (at_ .standby 5 [])).rosterEntry 4).configured = true
        ∧ blankEntry.configured = false
        ∧ ¬((1 : Byte).toNat = (listening (at_ .standby 5 [])).prof.upA
            ∨ (1 : Byte).toNat = (listening (at_ .standby 5 [])).prof.upB
          ∨ (1 : Byte).toNat = (listening (at_ .standby 5 [])).prof.exitA
              ∨ (1 : Byte).toNat = (listening (at_ .standby 5 [])).prof.exitB))
      ∧ ((listening (at_ .linking 5 [])).path.state = .linking ∧ (listening (at_ .linking 5 [])).readyForStandby = true
        ∧ (strangers (listening (at_ .linking 5 []))).readyForStandby = false
            ∧ (listening (at_ .linking 5 [])).rosterEntry 1 ≠ blankEntry)
      ∧ ((listening (at_ .held 5 [])).path.state ≠ .run ∧ (listening (at_ .held 5 [])).path.state ≠ .standby
        ∧ (listening (at_ .held 5 [])).path.state ≠ .linking) :=
  ⟨fun _ _ => ⟨awaits_listening _ (fun _ => rfl), awaits_listening _ (fun _ => rfl)⟩, by decide⟩

/-- Seven records leave room and eight do not; upstream A is station 2, upstream B station 5. -/
theorem witness_HandoffsTaken :
    let heard := listening
    (∀ s source, Awaits (heard s) (.handoff source tag212 8))
      ∧ ((heard (at_ .run 5 [])).inReset = false ∧ ((4 : Byte).toNat ≠ (heard (at_ .run 5 [])).prof.upA)
        ∧ (4 : Byte).toNat ≠ (heard (at_ .run 5 [])).prof.upB
            ∧ matchingState (heard (at_ .standby 5 [])).path.state = false)
      ∧ (matchingState (heard (at_ .runout 5 (queueOf 7))).path.state = true
        ∧ (heard (at_ .runout 5 (queueOf 7))).tracker.table.length < 8
        ∧ (¬∃ r ∈ (heard (at_ .runout 5 (queueOf 7))).tracker.table, r.tag.sheetId = tag212.sheetId)
        ∧ (2 : Byte).toNat = (heard (at_ .run 5 [])).prof.upA ∧ (5 : Byte).toNat = (heard (at_ .run 5 [])).prof.upB)
      ∧ (matchingState (heard (at_ .stopping 5 (queueOf 8))).path.state = true
        ∧ 8 ≤ (heard (at_ .stopping 5 (queueOf 8))).tracker.table.length)
      ∧ (∃ r ∈ (heard (at_ .run 5 (queueOf 7))).tracker.table, r.tag.sheetId = 100) :=
  ⟨fun _ _ => awaits_listening _ (fun _ => rfl), by decide⟩

theorem witness_TakensTaken :
    let heard (st : PathState) (now : Tick) (table : List Machine.Record) := listening (at_ st now table)
    let open_ (r : Machine.Record) := r.tag.sheetId = 212 ∧ r.phase = .outbound ∧ r.outputBound = some false
        ∧ r.taken = some false
    let s := heard .runout 5 ([sheet 211 .resident 1 0] ++ outSheet 212 1 false :: [])
    (∀ st now table source, Awaits (heard st now table) (.taken source 212))
      ∧ (matchingState (heard .held 5 []).path.state = false
        ∧ ∀ r ∈ (heard .run 5 [outSheet 212 1 true]).tracker.table, ¬open_ r)
      ∧ (matchingState s.path.state = true ∧ s.inReset = false
        ∧ s.tracker.table = [sheet 211 .resident 1 0] ++ outSheet 212 1 false :: []
        ∧ (∀ x ∈ [sheet 211 .resident 1 0], ¬open_ x) ∧ open_ (outSheet 212 1 false)
        ∧ (2 : Byte).toNat ≠ s.prof.exitStation (outSheet 212 1 false).exit
        ∧ (4 : Byte).toNat = s.prof.exitStation (outSheet 212 1 false).exit
        ∧ (outSheet 212 1 false).trailIndex ≠ s.prof.n)
      ∧ ((outSheet 212 3 false).trailIndex = s.prof.n ∧ open_ (outSheet 212 3 false)
        ∧ (heard .runout 5 [outSheet 212 3 false, sheet 213 .inbound 0 0]).tracker.table
          = [] ++ outSheet 212 3 false :: [sheet 213 .inbound 0 0]) :=
  ⟨fun _ _ _ _ => awaits_listening _ (fun _ => rfl), by decide⟩

/-- A JAM frame of a kind and rank, in epoch 9. -/
def jamOf (kind rank : Byte) : JamFrame :=
  { kind := kind, sensor := 1, noSheet := false, sheetId := 214, rank := rank, epoch := 9 }

/-- Kinds 1 and 12 and ranks 1 and 14 are the ends of the ranges, 0, 13 and 15 lie outside. -/
theorem witness_JamFramesTaken :
    let s := listening (at_ .run 5 [sheet 210 .resident 1 0])
    let out :=
      listening (timed (jammed (at_ .runout 5 [sheet 210 .resident 1 0]) { ownStall with cause := .remote } 2) 0)
    (∀ source, ∀ f ∈ [jamOf 1 1, jamOf 0 4, jamOf 13 4, jamOf 1 0, jamOf 1 15, jamOf 1 2, jamOf 1 3, jamOf 12 14],
        Awaits s (.jam source f) ∧ Awaits out (.jam source f))
      ∧ (s.inReset = false ∧ matchingState (at_ .held 5 []).path.state = false
        ∧ s.stationNumber = some (3 : Byte).toNat)
      ∧ (matchingState s.path.state = true ∧ s.stationNumber ≠ some (4 : Byte).toNat
        ∧ (jamOf 0 4).kind = 0 ∧ 12 < (jamOf 13 4).kind.toNat ∧ (jamOf 1 0).rank = 0 ∧ 14 < (jamOf 1 15).rank.toNat
        ∧ 14 < (15 : Byte).toNat)
      ∧ (1 ≤ (1 : Byte).toNat ∧ (14 : Byte).toNat ≤ 14 ∧ (jamOf 1 1).kind.toNat = kindCode .late
        ∧ (jamOf 12 14).kind.toNat = kindCode .peer ∧ 1 ≤ (jamOf 1 1).rank.toNat ∧ (jamOf 12 14).rank.toNat ≤ 14
        ∧ (jamOf 1 1).epoch = s.path.epoch)
      ∧ (s.jam.capture = none ∧ (jammed s lineCapture 0).jam.capture = some lineCapture
        ∧ ({ s with jam := { s.jam with highestRank := 2 } } : State).eligible = true ∧ s.holdsSheets = true
        ∧ (at_ .run 5 []).holdsSheets = false)
      ∧ (out.path.state = .runout ∧ out.eligible = true ∧ out.prof.rank ≤ (jamOf 1 3).rank.toNat
        ∧ (jamOf 1 2).rank.toNat < out.prof.rank)
      ∧ (at_ .stopping 5 []).path.state = .stopping :=
  ⟨fun source f hf => by
      simp only [List.mem_cons, List.not_mem_nil, or_false] at hf
      rcases hf with rfl | rfl | rfl | rfl | rfl | rfl | rfl | rfl <;>
        exact ⟨awaits_listening _ (fun _ => rfl), awaits_listening _ (fun _ => rfl)⟩, by decide⟩

/-- A SETUP with each fault of R164 in turn, at station 3. -/
def faultySetups : List SetupFrame :=
  [{ setupFuser with n := 0 }, { setupFuser with n := 5 }, { setupFuser with pos1 := 0 },
    { setupFuser with pos2 := 20001 }, { setupFuser with pos2 := 1200 }, { setupFuser with rank := 0 },
    { setupFuser with rank := 15 }, { setupFuser with upB := 15 }, { setupFuser with exitA := 3 },
    { setupFuser with exitB := 5 }, { setupFuser with roles := { noRoles with feed := true }, bridgeA := 0 },
    { setupFuser with roles := { noRoles with delivery := true } }, { setupFuser with anchoring := 2 },
    { setupFuser with report := 3 }, { setupFuser with mode2 := 2 }]

theorem faultySetups_read : ∀ f ∈ faultySetups, setupOfPayload (setupPayload f) = f := by decide +kernel

theorem witness_RefusedAndCounted :
    (∀ s, (∀ f ∈ faultySetups, Awaits (listening s) (.setup 0 f)) ∧ Awaits (listening s) (.setup 1 setupFuser)
        ∧ Awaits (listening s) (.untakenFrame 4 .notice [1, 0, 0, 0]))
      ∧ (∀ f ∈ faultySetups, setupFaulty 3 f = true)
      ∧ (Instr.untakenFrame 4 .notice [1, 0, 0, 0]).WellFormed = true
      ∧ ((listening (at_ .run 5 [])).inReset = false ∧ (1 : Byte) ≠ 0 ∧ (listening (bare 0)).strapFault = true
        ∧ (listening (at_ .run 5 [])).path.state ≠ .unconfigured)
      ∧ ((listening (bare 3)).stationNumber = some 3 ∧ (listening (bare 3)).path.state = .unconfigured) := by
  refine ⟨fun s => ⟨fun f hf => ?_, awaits_listening _ (fun _ => rfl), awaits_listening _ (fun _ => rfl)⟩, ?_⟩
  · exact awaits_listening (type := .setup) (payload := setupPayload f) s (fun _ => rfl)
      (by simp [setupPayload, halfBytes, payloadLengths]) (by rw [commandOfFrame, faultySetups_read f hf])
  · decide +kernel

/-! ### The Link Controller -/

/-- A station whose assembler stands in a condition. -/
def assembling (c : Assembler) : State :=
  { at_ .run 5 [] with link := { Link.empty with assembler := c } }

/-- A RESUME but for its CRC; a TAKEN being collected, which a SPEED does not end; and a notice of a length that none
has, of which the destination has come. -/
theorem witness_FramesAssembled :
    let other := heard [0x6C, 5, 2] (listening (at_ .run 5 []))
    ((assembling .waiting).inReset = false ∧ (assembling .waiting).link.assembler ≠ .taking
        ∧ ((15 : Byte) = 15 ∨ (assembling .waiting).stationNumber = some (15 : Byte).toNat)
        ∧ (assembling .waiting).stationNumber = some (3 : Byte).toNat
        ∧ ¬((4 : Byte) = 15 ∨ (assembling .waiting).stationNumber = some (4 : Byte).toNat))
      ∧ (decodeFrame ([15, 0, 7, 1, 9] ++ [crc8 [15, 0, 7, 1, 9]]) = .ok (.resume 0 9))
      ∧ ((encodeFrame 0 (.resume 0 9)).isSome = true ∧ (encodeFrame 0 .collision).isSome = false)
      ∧ ((assembling .taking).link.assembler = .taking ∧ 2 < (idle 3 (assembling .taking)).link.idleCount
        ∧ (idle 2 (assembling .taking)).link.idleCount ≤ 2)
      ∧ ((assembling .passing).link.assembler = .passing ∧ 2 < (idle 3 (assembling .passing)).link.idleCount)
      ∧ (decodeFrame [15, 0, 7, 1] = .error .idleGap ∧ decodeFrame [15, 0, 7, 73] = .error .lengthAbove72)
      ∧ ((encodeFrame 0 (.speed 0 800)).isSome = true ∧ (Instr.speed 0 800).WellFormed = true
        ∧ other.link.assembler = .taking ∧ other.link.collecting ≠ [] ∧ ¬Awaits other (.speed 0 800))
      ∧ ((listening (bare 3)).link.assembler = .taking ∧ 1 < [(1 : Byte)].length + 5 ∧ [(1 : Byte)].length ≤ 255
        ∧ (listening (bare 3)).link.collecting = (frameBytes 15 4 (reportFrameType .notice) [1]).take 1
        ∧ (Instr.untakenFrame 4 .notice [1]).WellFormed = false)
      ∧ ((List.replicate 72 (0 : Byte)).length ≤ 72 ∧ 72 < (List.replicate 73 (0 : Byte)).length) := by
  refine ⟨by decide, by decide +kernel, by decide, by decide, by decide, by decide,
    ⟨by decide, by decide, by decide +kernel, by decide +kernel, ?_⟩, by decide, by decide⟩
  rintro ⟨-, -, bytes, hb, hd⟩
  cases hb
  revert hd
  decide +kernel

/-- The gaps of station 3: URGENT 7, PATH 23 and REPORT 39, one below and at each. -/
theorem witness_TransmitBegins :
    let s := assembling .waiting
    let e := fresh 2 (.taken 215)
    let urgent : State := { s with link := { s.link with urgent := e :: [] } }
    (s.inReset = false ∧ s.stationNumber = some 3 ∧ s.link.attempt = none ∧ s.link.charClock = 0
        ∧ (s.link.urgent = [] ∧ s.link.path = [] ∧ s.link.report = []))
      ∧ (urgent.link.urgent = e :: [] ∧ (idle 6 urgent).link.idleCount < 4 + 3 + 16 * e.retry
        ∧ 4 + 3 + 16 * e.retry ≤ (idle 7 urgent).link.idleCount)
      ∧ ((paths s 1).link.urgent = [] ∧ (paths s 1).link.path = e :: []
        ∧ (idle 22 (paths s 1)).link.idleCount < 20 + 3 + 16 * e.retry
        ∧ 20 + 3 + 16 * e.retry ≤ (idle 23 (paths s 1)).link.idleCount)
      ∧ ((reports s 1).link.path = [] ∧ (reports s 1).link.report ≠ []
        ∧ (idle 38 (reports s 1)).link.idleCount < 36 + 3 + 16 * e.retry
        ∧ 36 + 3 + 16 * e.retry ≤ (idle 39 (reports s 1)).link.idleCount)
      ∧ ((ran (.transmitStart 7) (idle 7 urgent)).link.attempt
          = some { cls := .urgent, bytes := attemptBytes 5 3 e } ∧ 0 < (attemptBytes 5 3 e).length)
      ∧ (bare 15).stationNumber = none := by decide +kernel

/-- An attempt with a frame of a class at a retry number. -/
def attempting (st : PathState) (retry : Nat) : State :=
  { at_ st 5 [] with
    link :=
      { Link.empty with
        path := { dest := 4, body := .taken 213, retry := retry, started := true } :: []
        attempt := some { cls := .path, bytes := [] }
        txEnable := true } }

theorem witness_AttemptsEnd :
    ((attempting .run 2).inReset = false ∧ (attempting .run 2).link.attempt = some { cls := .path, bytes := [] }
        ∧ (attempting .run 2).link.queue .path
          = { dest := 4, body := .taken 213, retry := 2, started := true } :: [])
      ∧ (2 < 3 ∧ 3 ≤ 3) ∧ ((attempting .stopping 3).path.state ≠ .run)
      ∧ ((attempting .run 3).path.state = .run ∧ QueueClass.path ≠ .report) := by
  decide

theorem witness_OwnJamsRecorded :
    let full : State :=
      { at_ .run 5 [] with link := { Link.empty with urgent := List.replicate 2 (fresh 15 (.taken 1)) } }
    let lock := station { fuser with escalation := .lockout } .runout 5 [sheet 210 .resident 1 0]
    ((at_ .run 5 []).strapFault = false ∧ (at_ .run 5 []).jam.capture = none
        ∧ (jammed (at_ .decide 5 []) lineCapture 0).jam.capture = some lineCapture)
      ∧ ((jammed (at_ .decide 5 []) lineCapture 0).path.state ≠ .run
        ∧ (jammed (at_ .run 5 []) ownStall 3).jam.capture = some ownStall)
      ∧ ((jamSentIn (at_ .run 5 [])).jam.jamSent = true ∧ (at_ .run 5 []).jam.jamSent = false
        ∧ (at_ .run 5 []).link.urgent.length < 2 ∧ 2 ≤ full.link.urgent.length)
      ∧ (FirstJam (at_ .run 5 []) ∧ JamRoom (at_ .run 5 []) ∧ FirstJam (jammed (at_ .decide 5 []) lineCapture 0)
        ∧ JamRoom (jammed (at_ .decide 5 []) lineCapture 0)
        ∧ ((JamKind.stall = .tableFull → (at_ .decide 5 []).path.state = .run)))
      ∧ ((at_ .stopping 5 []).path.state = .stopping ∧ (at_ .runout 5 []).prof.escalation = .fold)
      ∧ (lock.path.state = .runout ∧ lock.prof.escalation = .lockout ∧ lock.census = none
        ∧ (reports lock 4).link.report.length ≤ 4) := by
  unfold FirstJam JamRoom; decide

end Sys2Proof.Tests
end

section
/-! PROOFS. A LAUNCH received (R62 to R64): the four conditions in order, and the record an accepted one creates. -/

namespace Sys2Proof.Laws

open Sys2Proof Sys2Proof.Machine Sys2Proof.Safety

/-! ## Requests and creations, as the statements write them -/

theorem asked_of_room {s : State} (hfault : s.strapFault = false) (h : s.link.report.length < 6) (dest : Nat)
    (body : Body) : asked s dest body = reported s dest body := by
  simp [asked, hfault, h]

theorem asked_of_full {s : State} (hfault : s.strapFault = false) (h : 6 ≤ s.link.report.length) (dest : Nat)
    (body : Body) :
    asked s dest body
      = { s with counters := { s.counters with reportDrop := raised s.counters.reportDrop 1 } } := by
  simp [asked, hfault, Nat.not_lt.2 h]

theorem asked_of_strapFault {s : State} (hfault : s.strapFault = true) (dest : Nat) (body : Body) :
    asked s dest body = s := by
  simp [asked, hfault]

/-- A request for the REPORT queue leaves what the statements say of it (R149, R156). -/
theorem requestReport_eq_asked (s : State) (dest : Nat) (body : Body) :
    s.requestReport dest body = asked s dest body := by
  unfold State.requestReport
  rcases request_cases s .report dest body with ⟨hfault, h⟩ | ⟨hfault, hfull, h⟩ | ⟨hfault, hroom, h⟩
  · rw [h, asked_of_strapFault hfault]
  · rw [h, asked_of_full hfault hfull]
    rfl
  · rw [h, asked_of_room hfault hroom]
    rfl

theorem tableFull_iff (s : State) : s.tableFull = true ↔ 8 ≤ s.tracker.table.length :=
  decide_eq_true_iff

theorem tableFull_of_room {s : State} (h : s.tracker.table.length < 8) : s.tableFull = false :=
  decide_eq_false (Nat.not_le.2 h)

theorem holdsSheet_iff (s : State) (id : SheetId) :
    s.holdsSheet id = true ↔ ∃ r ∈ s.tracker.table, r.tag.sheetId = id := by
  simp [State.holdsSheet, Record.isSheet]

theorem lengthClamped_iff (tag : WireTag) :
    lengthClamped tag = true ↔ tag.length.toNat < 1000 ∨ 6000 < tag.length.toNat := by
  simp only [lengthClamped, clampTo, bne_iff_ne, ne_eq]
  omega

theorem newRecord_eq_announced (s : State) (tag : WireTag) (source : Source) (anchor : Tick) :
    s.newRecord tag source anchor
      = announced s tag source (s.prof.entryDistance source) anchor (armsEntry s.path.state) := rfl

/-- The clampings of a creation, each counted by itself, are those `creationClamps` adds up (R2, R25). -/
theorem countIf_creationClamps (s t : State) (tag : WireTag) (d : Nat) :
    (t.countIf (lengthClamped tag) .clamp).countIf (s.leadOffsets tag.heavy d).saturated .clamp
      = t.countBy .clamp (creationClamps s tag d) := by
  have hlength : (if lengthClamped tag then 1 else 0)
      = if tag.length.toNat < 1000 ∨ 6000 < tag.length.toNat then 1 else 0 :=
    if_congr (lengthClamped_iff tag) rfl rfl
  rw [countIf_eq, countIf_eq, hlength]
  simp only [State.countBy, State.updCounters, raiseCounter, raised_raised]
  rfl

/-- The judgement of the gate reads no counter. -/
theorem judgeGate_countBy (s : State) (c : Counter) (n : Nat) :
    (s.countBy c n).judgeGate = s.judgeGate.countBy c n := by
  rw [judgeGate_eq, judgeGate_eq]
  rfl

/-- The gate judged after a change of the table stands as `withTable` says (R59). -/
theorem judgeGate_updTable (s : State) (f : List Machine.Record → List Machine.Record) :
    (s.updTable f).judgeGate = withTable s (f s.tracker.table) := by
  rw [judgeGate_eq]
  rfl

/-- A creation leaves the record its announcement describes, in its place (R9), the gate judged (R59) and its clampings
counted (R2, R25). -/
theorem createRecord_eq (s : State) (tag : WireTag) (source : Source) (anchor : Tick) :
    s.createRecord tag source anchor
      = { withTable s
            (insertInbound (announced s tag source (s.prof.entryDistance source) anchor (armsEntry s.path.state))
              s.tracker.table) with
          counters :=
            { s.counters with
              clamp := raised s.counters.clamp (creationClamps s tag (s.prof.entryDistance source)) } } := by
  unfold State.createRecord
  simp only
  rw [countIf_creationClamps, judgeGate_countBy, judgeGate_updTable, newRecord_eq_announced]
  rfl

/-! ## LAUNCH (R62 to R64) -/

/-- A LAUNCH whose frame is awaited reaches its owner when the frame has ended (R148). -/
theorem exec_launch_of_awaits {s : State} {source : Byte} {tag : WireTag} (hrun : s.inReset = false)
    (ha : Awaits s (.launch source tag)) :
    exec (.launch source tag) s = .next ((received s).launchReceived source tag) :=
  onFrame_of_awaits hrun ha

/-- A command that passes the source check is handed on (R148). -/
theorem commandFrom_zero (s : State) (f : State → State) : s.commandFrom 0 f = f s := rfl

/-- A command that fails the source check is counted (R148). -/
theorem commandFrom_of_ne {source : Byte} (h : source ≠ 0) (s : State) (f : State → State) :
    s.commandFrom source f = s.count .refused :=
  if_neg (by simpa using h)

theorem launchReceived_of_source_ne {s : State} {source : Byte} (h : source ≠ 0) (tag : WireTag) :
    s.launchReceived source tag = s.count .refused :=
  commandFrom_of_ne h s _

theorem launchReceived_of_refusal {s : State} {tag : WireTag} {reason : RefuseReason}
    (h : s.launchRefusal tag.sheetId = some reason) :
    s.launchReceived 0 tag = asked (s.count .refused) 0 (.notice (.refused tag.sheetId reason)) := by
  rw [State.launchReceived, commandFrom_zero]
  simp only [h]
  exact requestReport_eq_asked _ jobStation _

theorem launchReceived_of_no_refusal {s : State} {tag : WireTag} (h : s.launchRefusal tag.sheetId = none) :
    s.launchReceived 0 tag = s.createRecord tag .launch (tickPlus s.now s.prof.pickDelay) := by
  rw [State.launchReceived, commandFrom_zero]
  simp only [h]

section Conditions

variable {s : State} {id : SheetId}

/-- The first condition of R62. -/
theorem launchRefusal_notRun (h : s.path.state ≠ .run) : s.launchRefusal id = some .notRun := by
  simp [State.launchRefusal, h]

/-- The second condition of R62. -/
theorem launchRefusal_notFeed (hs : s.path.state = .run) (h : s.prof.roles.feed = false) :
    s.launchRefusal id = some .notFeed := by
  simp [State.launchRefusal, hs, h]

/-- The third condition of R62. -/
theorem launchRefusal_tableFull (hs : s.path.state = .run) (hf : s.prof.roles.feed = true)
    (h : 8 ≤ s.tracker.table.length) : s.launchRefusal id = some .tableFull := by
  simp [State.launchRefusal, hs, hf, (tableFull_iff s).2 h]

/-- The fourth condition of R62. -/
theorem launchRefusal_duplicate (hs : s.path.state = .run) (hf : s.prof.roles.feed = true)
    (hl : s.tracker.table.length < 8) (h : ∃ r ∈ s.tracker.table, r.tag.sheetId = id) :
    s.launchRefusal id = some .duplicate := by
  simp [State.launchRefusal, hs, hf, tableFull_of_room hl, (holdsSheet_iff s id).2 h]

/-- No condition of R62 holds. -/
theorem launchRefusal_none (hs : s.path.state = .run) (hf : s.prof.roles.feed = true)
    (hl : s.tracker.table.length < 8) (h : ¬∃ r ∈ s.tracker.table, r.tag.sheetId = id) :
    s.launchRefusal id = none := by
  have hnew : ¬s.holdsSheet id = true := mt (holdsSheet_iff s id).1 h
  simp [State.launchRefusal, hs, hf, tableFull_of_room hl, hnew]

end Conditions

/-- A LAUNCH that fails the source check is counted and brings no notice. -/
theorem exec_launch_of_source_ne {s : State} {source : Byte} {tag : WireTag} (hrun : s.inReset = false)
    (h : source ≠ 0) (ha : Awaits s (.launch source tag)) :
    exec (.launch source tag) s = .next (refusedOnce s) := by
  rw [exec_launch_of_awaits hrun ha, launchReceived_of_source_ne h]
  rfl

/-- A refused LAUNCH is counted, and asks for the REFUSED notice (R63). -/
theorem exec_launch_of_refusal {s : State} {tag : WireTag} {reason : RefuseReason} (hrun : s.inReset = false)
    (ha : Awaits s (.launch 0 tag)) (h : s.launchRefusal tag.sheetId = some reason) :
    exec (.launch 0 tag) s = .next (asked (refusedOnce s) 0 (.notice (.refused tag.sheetId reason))) := by
  rw [exec_launch_of_awaits hrun ha, launchReceived_of_refusal (s := received s) h]
  rfl

/-- The request of a refused LAUNCH's notice: queued, dropped and counted where REPORT is full, discarded with a strap
fault (R63, R149, R156). -/
theorem exec_launch_refusal_cases {s : State} {tag : WireTag} {reason : RefuseReason} (hrun : s.inReset = false)
    (ha : Awaits s (.launch 0 tag)) (h : s.launchRefusal tag.sheetId = some reason) :
    (s.strapFault = false → s.link.report.length < 6 →
        exec (.launch 0 tag) s
          = .next (reported (refusedOnce s) 0 (.notice (.refused tag.sheetId reason))))
      ∧ (s.strapFault = false → 6 ≤ s.link.report.length →
          exec (.launch 0 tag) s
            = .next
              { received s with
                counters :=
                  { s.counters with
                    refused := raised s.counters.refused 1, reportDrop := raised s.counters.reportDrop 1 } })
      ∧ (s.strapFault = true → exec (.launch 0 tag) s = .next (refusedOnce s)) := by
  rw [exec_launch_of_refusal hrun ha h]
  refine ⟨fun hfault hroom => ?_, fun hfault hfull => ?_, fun hfault => ?_⟩
  · rw [asked_of_room (s := refusedOnce s) hfault hroom]
  · rw [asked_of_full (s := refusedOnce s) hfault hfull]
    rfl
  · rw [asked_of_strapFault (s := refusedOnce s) hfault]

/-- An accepted LAUNCH creates its record, anchored PICK_DELAY ticks after receipt and armed (R12, R64). -/
theorem exec_launch_of_no_refusal {s : State} {tag : WireTag} (hrun : s.inReset = false)
    (ha : Awaits s (.launch 0 tag)) (hs : s.path.state = .run) (h : s.launchRefusal tag.sheetId = none) :
    exec (.launch 0 tag) s
      = .next
        { withTable (received s)
            (insertInbound
              (announced s tag .launch s.prof.bridgeA (s.window.timeBase + BitVec.ofNat 16 s.prof.pickDelay) true)
              s.tracker.table) with
          counters :=
            { s.counters with clamp := raised s.counters.clamp (creationClamps s tag s.prof.bridgeA) } } := by
  have harms : armsEntry (received s).path.state = true := by
    change armsEntry s.path.state = true
    rw [hs]
    rfl
  rw [exec_launch_of_awaits hrun ha, launchReceived_of_no_refusal (s := received s) h, createRecord_eq, harms]
  rfl

/-- Settles O46: what a refused LAUNCH leaves is one lemma over the reason, and each condition gives its reason. -/
theorem launchJudged : Obligations.LaunchJudged := by
  unfold Obligations.LaunchJudged
  intro s tag hrun
  refine ⟨fun source hsource ha => exec_launch_of_source_ne hrun hsource ha, fun ha => ⟨?_, ?_, ?_, ?_, ?_⟩⟩
  · exact fun hs => exec_launch_refusal_cases hrun ha (launchRefusal_notRun hs)
  · exact fun hs hf => exec_launch_refusal_cases hrun ha (launchRefusal_notFeed hs hf)
  · exact fun hs hf hfull => exec_launch_refusal_cases hrun ha (launchRefusal_tableFull hs hf hfull)
  · exact fun hs hf hroom hheld => exec_launch_refusal_cases hrun ha (launchRefusal_duplicate hs hf hroom hheld)
  · exact fun hs hf hroom hnew => exec_launch_of_no_refusal hrun ha hs (launchRefusal_none hs hf hroom hnew)

end Sys2Proof.Laws
end

section
/-! PROOFS. The two ways out of a stopped segment: the clearing at the end of COVER_SETTLE (R116, R141), and the RESUME
that enters RUN (R105). -/

namespace Sys2Proof.Laws

open Sys2Proof Sys2Proof.Machine Sys2Proof.Safety

/-! ## Accounts cleared (R17, R20, R59) -/

/-- The table-empty signal, as the statements write it (R37). -/
theorem tableEmptySignal_eq (s : State) :
    s.tableEmptySignal = { s with window := windowAfterRemoval s.window [] } := by
  rcases tableEmptySignal_cases s with ⟨hpending, h⟩ | ⟨v, hpending, h⟩ <;> simp [h, windowAfterRemoval, hpending]

/-- The removal of every record: a pending speed is applied where there was a record to remove (R20, R37). -/
theorem removeRecords_all (s : State) :
    s.removeRecords (fun _ => [])
      = { s with
          window := if s.tracker.table = [] then s.window else windowAfterRemoval s.window []
          tracker := { s.tracker with table := [] } } := by
  rcases removeRecords_cases s fun _ => [] with ⟨-, hheld, h⟩ | ⟨hempty, h⟩
  · rw [h, if_neg hheld, tableEmptySignal_eq]
    rfl
  · rw [h, if_pos (hempty.resolve_left fun hne => hne rfl)]
    rfl

/-- With no record in the table the gate stays where it is: none spans it, and none gives a target (R59). -/
theorem judgeGate_of_empty {s : State} (h : s.tracker.table = []) : s.judgeGate = s := by
  have htarget : s.gateTarget = s.tracker.gate := by simp [State.gateTarget, h]
  rw [judgeGate_eq, htarget, ite_self]

/-- A request for the REPORT queue neither reads nor changes the window, the tracker and the path state. -/
theorem asked_with (s : State) (dest : Nat) (body : Body) (w : WindowUnit) (k : Tracker) (p : PathController) :
    asked { s with window := w, tracker := k, path := p } dest body
      = { asked s dest body with window := w, tracker := k, path := p } := by
  change (if s.strapFault = true then _ else if s.link.report.length < 6 then _ else _) = _
  unfold asked
  split
  · rfl
  · split <;> rfl

theorem asked_setup (s : State) (dest : Nat) (body : Body) : (asked s dest body).setup = s.setup := by
  rw [← requestReport_eq_asked, State.requestReport_setup]

theorem asked_front (s : State) (dest : Nat) (body : Body) : (asked s dest body).front = s.front := by
  rw [← requestReport_eq_asked, State.requestReport_front]

/-! ## The state entered (R102, R103) -/

/-- LINKING entered with a neighbour unknown stays there (R102). -/
theorem enterLinking_of_unknown {s : State} (h : s.neighboursKnown = false) : s.enterLinking = s.toState .linking := by
  rcases judgeLinking_cases (s.toState .linking) with ⟨-, hstays⟩ | ⟨hknown, -⟩
  · exact hstays
  · exact absurd (h.symm.trans hknown) Bool.false_ne_true

/-- Whether the neighbours are known is read from the setup alone. -/
theorem neighboursKnown_of_setup {s t : State} (h : t.setup = s.setup) : t.neighboursKnown = s.neighboursKnown := by
  simp only [State.neighboursKnown, State.prof, State.rosterEntry, h]

/-- The path items of a state entered are read from the path items and the cover alone. -/
theorem pathIn_of_front {s t : State} (hpath : t.path = s.path) (hfront : t.front = s.front) (st : PathState) :
    pathIn t st = pathIn s st := by
  rw [pathIn, hpath, hfront]
  rfl

/-- STANDBY with the neighbours known and LINKING otherwise, judged from an earlier state of the event: with the run-out
list empty the path items alone change. -/
theorem enter_of_neighbours {s t : State} (hsetup : t.setup = s.setup) (hfront : t.front = s.front)
    (hpath : t.path = s.path) (hrunOut : t.tracker.runOut = []) :
    (if s.neighboursKnown then t.enterStandby else t.enterLinking)
      = { t with path := pathIn s (if s.neighboursKnown then .standby else .linking) } := by
  rw [← neighboursKnown_of_setup hsetup, ← pathIn_of_front hpath hfront]
  cases hn : t.neighboursKnown
  · exact enterLinking_of_unknown hn
  · have hkept : { t.tracker with runOut := [] } = t.tracker := by rw [← hrunOut]
    rw [if_pos rfl, if_pos rfl, enterStandby_eq, hkept]
    rfl

/-! ## COVER_SETTLE (R116) -/

/-- The clearing before its notice is asked for: the table and the run-out list empty, the gate where it was. -/
theorem clearedAccounts_eq (s : State) :
    ((s.removeRecords fun _ => []).judgeGate.updTracker fun k => { k with runOut := [] })
      = { s with
          window := if s.tracker.table = [] then s.window else windowAfterRemoval s.window []
          tracker := { s.tracker with table := [], runOut := [] } } := by
  rw [removeRecords_all, judgeGate_of_empty rfl]
  rfl

theorem clearSegment_eq (s : State) :
    s.clearSegment
      = { asked s 0
            (.notice (.clear s.path.epoch s.tracker.table.length (if s.neighboursKnown then .standby else .linking)))
          with
          window := if s.tracker.table = [] then s.window else windowAfterRemoval s.window []
          tracker := { s.tracker with table := [], runOut := [] }
          path := pathIn s (if s.neighboursKnown then .standby else .linking) } := by
  unfold State.clearSegment
  simp only
  rw [clearedAccounts_eq, requestReport_eq_asked, asked_with]
  exact enter_of_neighbours (asked_setup s _ _) (asked_front s _ _) rfl rfl

/-- A COVER_SETTLE timer run out in VERIFY clears the segment (R100). -/
theorem exec_coverSettleExpiry_of_reached {s : State} {d : Tick} (hrun : s.inReset = false)
    (hs : s.path.state = .verify) (hd : s.path.coverSettle = some d) (hr : reached s.window.timeBase d = true) :
    exec .coverSettleExpiry s = .next s.clearSegment := by
  have hexpires : s.timerExpires s.path.coverSettle = true := by
    rw [hd]
    exact hr
  exact (whileRunning_of_running hrun).trans (congrArg _ (if_pos ⟨hs, hexpires⟩))

/-- Settles O44: the expiry runs the clearing, and the clearing is one update of the state. -/
theorem coverSettles : Obligations.CoverSettles := by
  unfold Obligations.CoverSettles
  intro s d hrun hs hd hr
  rw [exec_coverSettleExpiry_of_reached hrun hs hd hr, clearSegment_eq]

/-! ## RESUME (R105) -/

/-- A RESUME whose frame is awaited reaches its owner when the frame has ended (R148). -/
theorem exec_resume_of_awaits {s : State} {source epoch : Byte} (hrun : s.inReset = false)
    (ha : Awaits s (.resume source epoch)) :
    exec (.resume source epoch) s = .next ((received s).resumeReceived source epoch) :=
  onFrame_of_awaits hrun ha

/-- RUN entered by an accepted RESUME, as one update. -/
theorem acceptResume_eq (s : State) (epoch : Byte) :
    s.acceptResume epoch
      = { s with
          path :=
            { s.path with
              state := .run, epoch := epoch, hold := false, drv := decide (s.front.cover.level = .closed),
              decideTimer := none, stopSettle := none, coverSettle := none }
          jam := { capture := none, laterSet := 0, laterCount := 0, highestRank := 0, jamSent := false }
          census := none } :=
  rfl

theorem resumeReceived_of_accepted {s : State} {epoch : Byte}
    (h : s.path.state = .standby ∧ s.path.lineHigh = true ∧ epoch ≠ s.path.epoch) :
    s.resumeReceived 0 epoch = s.acceptResume epoch :=
  if_pos h

/-- A RESUME from another station, or one that fails a condition, is counted and does nothing else. -/
theorem resumeReceived_of_refused {s : State} {source epoch : Byte}
    (h : ¬(source = 0 ∧ s.path.state = .standby ∧ s.path.lineHigh = true ∧ epoch ≠ s.path.epoch)) :
    s.resumeReceived source epoch = s.count .refused := by
  by_cases hsource : source = 0
  · subst hsource
    exact if_neg fun hconditions => h ⟨rfl, hconditions⟩
  · exact commandFrom_of_ne hsource s _

/-- Settles O48: the two answers to RESUME, and the Sheet Table empty in STANDBY. -/
theorem resumeJudged : Obligations.ResumeJudged := by
  unfold Obligations.ResumeJudged
  intro s source epoch hrun ha
  rw [exec_resume_of_awaits hrun ha]
  refine ⟨?_, fun hrefused => ?_, ?_⟩
  · rintro ⟨rfl, hconditions⟩
    rw [resumeReceived_of_accepted (s := received s) hconditions, acceptResume_eq]
    rfl
  · rw [resumeReceived_of_refused (s := received s) hrefused]
    rfl
  · rintro ⟨-, hstandby, -⟩ hempty
    exact hempty (.inr (.inr hstandby))

end Sys2Proof.Laws
end

section
/-! PROOFS. A QUERY with its census flag set (R142), and the queuing of the census parts it asks for (R137). -/

namespace Sys2Proof.Laws

open Sys2Proof Sys2Proof.Machine Sys2Proof.Safety

/-! ## One part queued (R137) -/

theorem evictable_iff (e : Entry) : e.evictable = true ↔ e.isCensus = false ∧ e.started = false := by
  simp [Entry.evictable]

theorem not_evictable_iff (e : Entry) : e.evictable = false ↔ e.isCensus = true ∨ e.started = true := by
  cases hc : e.isCensus <;> cases hs : e.started <;> simp [Entry.evictable, hc, hs]

/-- With room in the REPORT queue the part joins its end. -/
theorem requestCensusPart_of_room {s : State} (hfault : s.strapFault = false) (hroom : s.link.report.length < 6)
    (part : CensusPart) : s.requestCensusPart part = reported s 0 (.census part) := by
  rcases requestCensusPart_cases s part with ⟨h, -⟩ | ⟨-, -, hjoins⟩ | ⟨-, hfull, -⟩ | ⟨-, hfull, -⟩
  · simp [hfault] at h
  · exact hjoins
  · omega
  · omega

/-- In a full REPORT queue the part takes the place of the newest frame that may be evicted. -/
theorem requestCensusPart_of_evictable {s : State} (hfault : s.strapFault = false) (hfull : 6 ≤ s.link.report.length)
    {front back : List Entry} {e : Entry} (hsplit : s.link.report = front ++ e :: back) (he : e.evictable = true)
    (hback : ∀ x ∈ back, x.evictable = false) (part : CensusPart) :
    s.requestCensusPart part
      = { s with
          link := { s.link with report := front ++ back ++ [fresh 0 (.census part)] }
          counters := { s.counters with reportDrop := raised s.counters.reportDrop 1 } } := by
  have hany : s.link.report.any Entry.evictable = true := List.any_eq_true.2 ⟨e, by simp [hsplit], he⟩
  rcases requestCensusPart_cases s part with ⟨h, -⟩ | ⟨-, hroom, -⟩ | ⟨-, -, -, hevicts⟩ | ⟨-, -, hnone, -⟩
  · simp [hfault] at h
  · omega
  · rw [hevicts, ← eraseNewest_middle hback he, ← hsplit]
    rfl
  · simp [hnone] at hany

/-- In a full REPORT queue with no frame that may be evicted the part is dropped. -/
theorem requestCensusPart_of_none_evictable {s : State} (hfault : s.strapFault = false)
    (hfull : 6 ≤ s.link.report.length) (hnone : ∀ x ∈ s.link.report, x.evictable = false) (part : CensusPart) :
    s.requestCensusPart part
      = { s with counters := { s.counters with reportDrop := raised s.counters.reportDrop 1 } } := by
  have hany : s.link.report.any Entry.evictable = false := by simpa using hnone
  rcases requestCensusPart_cases s part with ⟨h, -⟩ | ⟨-, hroom, -⟩ | ⟨-, -, hsome, -⟩ | ⟨-, -, -, hdrops⟩
  · simp [hfault] at h
  · omega
  · simp [hany] at hsome
  · exact hdrops

/-! ## The parts of a census (R137) -/

/-- With room in the REPORT queue for all of them, parts queued one after another stand at its end in their order. -/
theorem foldl_requestCensusPart_of_room {s : State} {parts : List CensusPart} (hfault : s.strapFault = false)
    (hroom : s.link.report.length + parts.length ≤ 6) :
    parts.foldl State.requestCensusPart s
      = { s with
          link := { s.link with report := s.link.report ++ parts.map fun p => fresh 0 (.census p) } } := by
  induction parts generalizing s with
  | nil => simp
  | cons part rest ih =>
    rw [List.length_cons] at hroom
    have hrest : (reported s 0 (.census part)).link.report.length + rest.length ≤ 6 := by
      simp only [reported, List.length_append, List.length_singleton]
      omega
    rw [List.foldl_cons, requestCensusPart_of_room hfault (by omega),
      ih (s := reported s 0 (.census part)) hfault hrest]
    simp [reported]

theorem censusParts_of_le {c : Census} (h : c.entries.length ≤ 8) :
    censusParts c
      = [{ header := c.header, total := c.entries.length, number := 1, parts := 1, entries := c.entries }] :=
  if_pos h

theorem censusParts_of_lt {c : Census} (h : 8 < c.entries.length) :
    censusParts c
      = [{ header := c.header, total := c.entries.length, number := 1, parts := 2, entries := c.entries.take 8 },
        { header := c.header, total := c.entries.length, number := 2, parts := 2, entries := c.entries.drop 8 }] :=
  if_neg (Nat.not_le.2 h)

theorem censusParts_length_le (c : Census) : (censusParts c).length ≤ 2 := by
  rcases Nat.lt_or_ge 8 c.entries.length with h | h
  · simp [censusParts_of_lt h]
  · simp [censusParts_of_le h]

/-- What the parts of a census of at most 16 entries hold: its entries in order, its header and count in each, at most 8
entries in each, and the numbers from 1. -/
theorem censusParts_spec {c : Census} (hentries : c.entries.length ≤ 16) :
    (censusParts c).flatMap (fun p => p.entries) = c.entries
      ∧ (∀ p ∈ censusParts c, p.header = c.header ∧ p.total = c.entries.length ∧ p.entries.length ≤ 8
          ∧ p.parts = (censusParts c).length)
      ∧ (censusParts c).map (fun p => p.number) = if c.entries.length ≤ 8 then [1] else [1, 2] := by
  rcases Nat.lt_or_ge 8 c.entries.length with h | h
  · simp [censusParts_of_lt h, Nat.not_le.2 h, hentries]
  · simp [censusParts_of_le h, h]

/-! ## QUERY with its census flag set (R142) -/

/-- A QUERY whose frame is awaited reaches its owner when the frame has ended (R148). -/
theorem exec_queryCensus_of_awaits {s : State} {source : Byte} (hrun : s.inReset = false)
    (ha : Awaits s (.queryCensus source)) :
    exec (.queryCensus source) s = .next ((received s).queryCensusReceived source) :=
  onFrame_of_awaits hrun ha

theorem queryCensusReceived_of_none {s : State} (h : s.census = none) :
    s.queryCensusReceived 0 = s.count .refused := by
  rw [State.queryCensusReceived, commandFrom_zero]
  simp only [h]

theorem queryCensusReceived_of_some {s : State} {c : Census} (h : s.census = some c) :
    s.queryCensusReceived 0 = (censusParts c).foldl State.requestCensusPart s := by
  rw [State.queryCensusReceived, commandFrom_zero]
  simp only [h]
  rfl

/-- With no census formed the QUERY is counted as refused and does nothing else. -/
theorem exec_queryCensus_of_none {s : State} (hrun : s.inReset = false) (ha : Awaits s (.queryCensus 0))
    (h : s.census = none) : exec (.queryCensus 0) s = .next (refusedOnce s) := by
  rw [exec_queryCensus_of_awaits hrun ha, queryCensusReceived_of_none (s := received s) h]
  rfl

/-- With a census formed the QUERY queues its parts, part 1 before part 2. -/
theorem exec_queryCensus_of_some {s : State} {c : Census} (hrun : s.inReset = false) (ha : Awaits s (.queryCensus 0))
    (h : s.census = some c) :
    exec (.queryCensus 0) s = .next ((censusParts c).foldl State.requestCensusPart (received s)) := by
  rw [exec_queryCensus_of_awaits hrun ha, queryCensusReceived_of_some (s := received s) h]

/-- Settles O51: the answer by whether a census is formed, its parts, and the queuing of one part in a full queue. -/
theorem censusAnswered : Obligations.CensusAnswered := by
  unfold Obligations.CensusAnswered
  intro s hrun
  refine ⟨fun ha h => exec_queryCensus_of_none hrun ha h,
    fun ha c h => ⟨exec_queryCensus_of_some hrun ha h, fun hfault hshort => ?_⟩,
    fun c hentries => censusParts_spec hentries,
    fun part front back e hfault hfull => ⟨fun hsplit hcensus hstarted hback => ?_, fun hnone => ?_⟩⟩
  · have hroom : (received s).link.report.length + (censusParts c).length ≤ 6 :=
      Nat.add_le_add hshort (censusParts_length_le c)
    rw [exec_queryCensus_of_some hrun ha h, foldl_requestCensusPart_of_room (s := received s) hfault hroom]
    rfl
  · exact requestCensusPart_of_evictable hfault hfull hsplit ((evictable_iff e).2 ⟨hcensus, hstarted⟩)
      (fun x hx => (not_evictable_iff x).2 (hback x hx)) part
  · exact requestCensusPart_of_none_evictable hfault hfull (fun x hx => (not_evictable_iff x).2 (hnone x hx)) part

end Sys2Proof.Laws
end

section
/-! PROOFS. What a command can do, said once: every command is a run of small moves, each of one block of the station,
or one of the few events that do more (reset, its release, RESTART, SETUP, RESUME, HELLO, the cover, a delivery). The
invariants are proved of the moves. -/

namespace Sys2Proof.Laws

open Sys2Proof Sys2Proof.Machine Sys2Proof.Safety

/-! ## The moves -/

/-- What can happen to the Link Controller (9.1 to 9.4). -/
inductive LinkMove (l : Link) : Link → Prop
  /-- A new frame joins a queue with room (R149). -/
  | joins (c : QueueClass) (dest : Nat) (body : Body) (hroom : (l.queue c).length < queueDepth c) :
      LinkMove l (l.setQueue c (l.queue c ++ [newEntry dest body]))
  /-- A CENSUS part takes the place of the newest frame it may evict (R137). -/
  | evicts (dest : Nat) (body : Body) (hany : l.report.any Entry.evictable = true) :
      LinkMove l { l with report := eraseNewest Entry.evictable l.report ++ [newEntry dest body] }
  /-- The HANDOFF flush (R153). -/
  | flushes : LinkMove l { l with path := keptAtFlush l.path }
  /-- The receive assembler and the clocks of the line (R144 to R147). -/
  | hears (a : Assembler) (held : List Byte) (idle clock : Nat) (hclock : clock = 0 ∨ clock = l.charClock)
      (hheld : (a = l.assembler ∧ held = l.collecting)
        ∨ (a ≠ .taking ∧ l.assembler ≠ .taking ∧ held = l.collecting)
        ∨ (a ≠ .taking ∧ held = []) ∨ (a = .taking ∧ held ≠ [] ∧ decodeFrame held = .error .idleGap)) :
      LinkMove l { l with assembler := a, collecting := held, idleCount := idle, charClock := clock }
  /-- An attempt begins with the head of a queue (R150, R151). -/
  | begins (c : QueueClass) (e : Entry) (bytes : List Byte) (hhead : (l.queue c).head? = some e) :
      LinkMove l
        { (l.setQueue c ((l.queue c).modifyHead fun e => { e with started := true })).seen with
          attempt := some { cls := c, bytes := bytes }, txEnable := true }
  /-- An attempt ends (R151). -/
  | ends : LinkMove l { l.seen with attempt := none, txEnable := false }
  /-- The head of a queue leaves it (R151, R152). -/
  | drops (c : QueueClass) (hnone : l.attempt = none) : LinkMove l (l.setQueue c (l.queue c).tail)
  /-- The head of a queue is to be tried again (R151). -/
  | retries (c : QueueClass) (hnone : l.attempt = none) (hretry : ∀ e, (l.queue c).head? = some e → e.retry < 3) :
      LinkMove l (l.setQueue c ((l.queue c).modifyHead fun e => { e with retry := e.retry + 1 }))

/-- What can happen to one sensor (R38, R39): its mode stays, and a candidate stands at a FILTERED sensor, of the other
level than its stable one, where the candidate before did. -/
structure SensorMove (x y : Sensor) : Prop where
  mode : y.mode = x.mode
  candidate : (y.candidate = x.candidate ∧ (y.stable = x.stable ∨ x.mode ≠ .filtered)) ∨ y.candidate = none
    ∨ ∃ c, y.candidate = some c ∧ x.mode = .filtered ∧ c.level ≠ y.stable

/-- What can happen to the Sensor Front End short of a change of the debounced cover level (R38 to R42). -/
inductive FrontMove (e : FrontEnd) : FrontEnd → Prop
  | sensor (k : Fin 4) (y : Sensor) (h : SensorMove e.sensors[k] y) :
      FrontMove e { e with sensors := e.sensors.set k y }
  | cover (v : Cover) (h : v.level = e.cover.level) : FrontMove e { e with cover := v }

/-- The Path State Controller's items in a state, the timer of that state running to a tick (R96, R100). -/
def pathWith (s : State) (st : PathState) (timer : Tick) : PathController :=
  { pathIn s st with
    decideTimer := if st = .decide then some timer else none
    stopSettle := if st = .stopping then some timer else none
    coverSettle := if st = .verify then some timer else none }

/-- The changes of state short of SETUP, RESUME, RESTART and reset, and what each does to the records of the table. -/
inductive Door (s : State) : PathState → (Machine.Record → Machine.Record) → Prop
  | stops (h : s.path.state = .run ∨ s.path.state = .decide ∨ s.path.state = .runout) :
      Door s .stopping Record.disarmed
  | locks (h : s.path.state = .runout) : Door s .lockout Record.disarmed
  | runsOut (h : s.path.state = .run ∨ s.path.state = .decide) (hcover : s.front.cover.level = .closed) :
      Door s .runout Record.atRunout
  | decides (h : s.path.state = .run) : Door s .decide id
  | holds (h : s.path.state = .stopping ∨ s.path.state = .standby ∨ s.path.state = .verify
        ∨ s.path.state = .clearing)
      (hcover : s.front.cover.level = .closed) : Door s .held id
  | clears (h : s.path.state = .stopping ∨ s.path.state = .standby ∨ s.path.state = .verify
        ∨ s.path.state = .clearing ∨ s.path.state = .held)
      (hcover : s.front.cover.level = .opened) : Door s .clearing id
  | verifies (h : s.path.state = .stopping ∨ s.path.state = .standby ∨ s.path.state = .verify
        ∨ s.path.state = .clearing)
      (hcover : s.front.cover.level = .closed) : Door s .verify id
  | links (h : s.path.state = .standby ∨ s.path.state = .verify ∧ s.tracker.table = []) : Door s .linking id
  | readies (h : s.path.state = .linking ∧ s.front.cover.level = .closed
        ∨ s.path.state = .verify ∧ s.tracker.table = []) : Door s .standby id

/-- Sensor `k` gives edges (R38). -/
def GivesEdges (s : State) (k : Nat) : Prop :=
  ∃ j : Fin 4, j.val = k ∧ s.front.sensors[j].mode ≠ .followed

/-- What a matched LEAD at sensor `k` of `n` makes of a record, in a state that arms deadlines or not (R45, R47 to
R49). -/
structure LeadsTo (n : Nat) (arms : Bool) (k : Nat) (r t : Machine.Record) : Prop where
  tag : t.tag = r.tag
  leadIndex : t.leadIndex = k + 1
  trailIndex : t.trailIndex = r.trailIndex
  leadCaptures : ∃ c, t.leadCaptures = r.leadCaptures ++ [c]
  leadWindow : t.leadWindow.isSome ↔ k + 1 < n
  trailWindow : t.trailWindow.isSome ↔ r.trailIndex = k ∨ r.trailWindow.isSome
  phase : (t.phase = (if k = 0 then .resident else r.phase) ∧ t.outputBound = r.outputBound ∧ t.taken = r.taken
      ∧ t.takeDue = r.takeDue)
    ∨ (n ≤ k + 1 ∧ t.phase = .outbound
      ∧ ((t.outputBound = some true ∧ t.taken = none ∧ t.takeDue = none)
        ∨ (t.outputBound = some false ∧ t.taken = some false)))
  armed : Armed t → Armed r ∨ arms = true

/-- What a matched TRAIL at sensor `k` makes of a record, in a state that arms deadlines or not (R51). -/
structure TrailsTo (arms : Bool) (k : Nat) (r t : Machine.Record) : Prop where
  tag : t.tag = r.tag
  phase : t.phase = r.phase
  leadIndex : t.leadIndex = r.leadIndex
  trailIndex : t.trailIndex = k + 1
  leadCaptures : t.leadCaptures = r.leadCaptures
  leadWindow : t.leadWindow = r.leadWindow
  trailWindow : t.trailWindow.isSome ↔ k + 1 < r.leadIndex
  outputBound : t.outputBound = r.outputBound
  taken : t.taken = r.taken
  takeDue : t.takeDue = r.takeDue
  armed : Armed t → Armed r ∨ arms = true

/-- What can happen to the Sheet Table short of a removal that empties it (chapters 1, 3, 4). -/
inductive TableMove (s : State) : List Machine.Record → Prop
  /-- A record is created (R9, R12, R13). -/
  | creates (tag : WireTag) (source : Source) (anchor : Tick) (hs : matchingState s.path.state = true)
      (hprofile : s.setup.profile ≠ none) (hroom : s.tracker.table.length < 8)
      (hnew : ∀ r ∈ s.tracker.table, r.tag.sheetId ≠ tag.sheetId) :
      TableMove s (insertInbound (s.newRecord tag source anchor) s.tracker.table)
  /-- A deadline expires (R22). -/
  | disarms (p : Machine.Record → Bool) (f : Machine.Record → Machine.Record)
      (hf : f = Record.leadDisarmed ∨ f = Record.trailDisarmed ∨ f = Record.takeDisarmed) :
      TableMove s (updateFirst p f s.tracker.table)
  /-- A LEAD at sensor 0 is matched (R45). -/
  | enters (p : Machine.Record → Bool) (r t : Machine.Record) (hk : GivesEdges s 0)
      (hr : s.tracker.table.find? p = some r) (hin : r.isInbound = true)
      (ht : LeadsTo s.prof.n (armingState s.path.state) 0 r t) :
      TableMove s (insertResident t (s.tracker.table.eraseP p))
  /-- A LEAD at an inner sensor or the exit sensor is matched (R47). -/
  | advances (k : Nat) (r t : Machine.Record) (hk : GivesEdges s k) (h1 : 1 ≤ k)
      (hr : s.tracker.table.find? (innerChoice k) = some r) (ht : LeadsTo s.prof.n (armingState s.path.state) k r t) :
      TableMove s (updateFirst (innerChoice k) (fun _ => t) s.tracker.table)
  /-- A TRAIL is matched, and its record stays (R51). -/
  | trails (k : Nat) (r t : Machine.Record) (hr : s.tracker.table.find? (trailChoice k) = some r)
      (ht : TrailsTo (armingState s.path.state) k r t) :
      TableMove s (updateFirst (trailChoice k) (fun _ => t) s.tracker.table)
  /-- A TAKEN confirms a record that stays (R73). -/
  | confirms (id : SheetId) :
      TableMove s (updateFirst (takenChoice id) (fun r => { r with taken := some true }) s.tracker.table)
  /-- Records are removed, and some stay or none was there (R15, R16, R132). -/
  | keeps (l : List Machine.Record) (hl : l.Sublist s.tracker.table) (hne : l ≠ [] ∨ s.tracker.table = []) :
      TableMove s l

/-- One move of one block of a station out of reset. -/
inductive Move (s : State) : State → Prop
  | counts (k : Counters) (hgrow : CountersGrow s.counters k) (hdelivered : k.delivered = s.counters.delivered) :
      Move s { s with counters := k }
  | link (l : Link) (h : LinkMove s.link l) : Move s { s with link := l }
  | jam (j : JamMonitor) (hcapture : j.capture ≠ none)
      (hcount : j.laterCount ≤ 255 ∨ j.laterCount = s.jam.laterCount) : Move s { s with jam := j }
  | forms (c : Census) (hnone : s.census = none) : Move s { s with census := some c }
  | front (e : FrontEnd) (h : FrontMove s.front e) : Move s { s with front := e }
  | line (high others : Bool) : Move s { s with path := { s.path with lineHigh := high, othersHold := others } }
  | door (st : PathState) (f : Machine.Record → Machine.Record) (timer : Tick) (h : Door s st f) :
      Move s
        { s with path := pathWith s st timer, tracker := { s.tracker with table := s.tracker.table.map f } }
  | table (l : List Machine.Record) (h : TableMove s l) : Move s { s with tracker := { s.tracker with table := l } }
  | gate (g : Exit) : Move s { s with tracker := { s.tracker with gate := g } }
  /-- The last record is removed, and a pending speed is applied (R20, R37). -/
  | empties (hs : s.path.state ≠ .unconfigured) (hne : s.tracker.table ≠ []) :
      Move s { s with window := windowAfterRemoval s.window [], tracker := { s.tracker with table := [] } }
  | clearsRunOut : Move s { s with tracker := { s.tracker with runOut := [] } }
  | listsRunOut (t : SheetTag) :
      Move s { s with tracker := { s.tracker with runOut := runOutAppend t s.tracker.runOut } }
  /-- A SPEED is taken (R36). -/
  | speeds (v : Nat) (hs : s.path.state ≠ .unconfigured) (hv : 50 ≤ v ∧ v ≤ 1600) :
      Move s
        { s with
          window :=
            if s.tracker.table = [] then { s.window with currentSpeed := some v, pendingSpeed := none }
            else { s.window with pendingSpeed := some v } }

/-- A run of moves. -/
abbrev Moves : State → State → Prop :=
  Relation.ReflTransGen Move

theorem Moves.refl (s : State) : Moves s s := Relation.ReflTransGen.refl

theorem Move.single {s t : State} (h : Move s t) : Moves s t := Relation.ReflTransGen.single h

/-- A property that every move keeps is kept by a run of moves. -/
theorem Moves.keeps {P : State → Prop} (h : ∀ {s t : State}, Move s t → P s → P t) {s t : State}
    (hst : Moves s t) (hs : P s) : P t := by
  induction hst with
  | refl => exact hs
  | tail _ hmove ih => exact h hmove ih

/-! ### What no move changes -/

theorem Move.inReset {s t : State} (h : Move s t) : t.inReset = s.inReset := by cases h <;> rfl
theorem Move.setup {s t : State} (h : Move s t) : t.setup = s.setup := by cases h <;> rfl
theorem Move.pending {s t : State} (h : Move s t) : t.pending = s.pending := by cases h <;> rfl
theorem Move.eventsDrawn {s t : State} (h : Move s t) : t.eventsDrawn = s.eventsDrawn := by cases h <;> rfl
theorem Move.epoch {s t : State} (h : Move s t) : t.path.epoch = s.path.epoch := by cases h <;> rfl
theorem Move.lastDelivered {s t : State} (h : Move s t) : t.tracker.lastDelivered = s.tracker.lastDelivered := by
  cases h <;> rfl

theorem Moves.inReset {s t : State} (h : Moves s t) : t.inReset = s.inReset :=
  h.keeps (P := fun u => u.inReset = s.inReset) (fun hm hu => hm.inReset.trans hu) rfl

theorem Moves.setup {s t : State} (h : Moves s t) : t.setup = s.setup :=
  h.keeps (P := fun u => u.setup = s.setup) (fun hm hu => hm.setup.trans hu) rfl

theorem Moves.pending {s t : State} (h : Moves s t) : t.pending = s.pending :=
  h.keeps (P := fun u => u.pending = s.pending) (fun hm hu => hm.pending.trans hu) rfl

theorem Moves.eventsDrawn {s t : State} (h : Moves s t) : t.eventsDrawn = s.eventsDrawn :=
  h.keeps (P := fun u => u.eventsDrawn = s.eventsDrawn) (fun hm hu => hm.eventsDrawn.trans hu) rfl

theorem Moves.epoch {s t : State} (h : Moves s t) : t.path.epoch = s.path.epoch :=
  h.keeps (P := fun u => u.path.epoch = s.path.epoch) (fun hm hu => hm.epoch.trans hu) rfl

theorem Moves.lastDelivered {s t : State} (h : Moves s t) : t.tracker.lastDelivered = s.tracker.lastDelivered :=
  h.keeps (P := fun u => u.tracker.lastDelivered = s.tracker.lastDelivered) (fun hm hu => hm.lastDelivered.trans hu) rfl

end Sys2Proof.Laws
end

section
/-! PROOFS. Every shared operation of the station is a run of moves. -/

namespace Sys2Proof.Laws

open Sys2Proof Sys2Proof.Machine Sys2Proof.Safety

/-! ## Counters and requests -/

theorem CountersGrow.refl (k : Counters) : CountersGrow k k := by simp [CountersGrow]

theorem countersGrow_raiseCounter (c : Counter) (n : Nat) (k : Counters) : CountersGrow k (raiseCounter c n k) := by
  cases c <;> simp [CountersGrow, raiseCounter, le_raised]

theorem raiseCounter_delivered {c : Counter} (h : c ≠ .delivered) (n : Nat) (k : Counters) :
    (raiseCounter c n k).delivered = k.delivered := by
  cases c <;> simp_all [raiseCounter]

theorem moves_countBy (s : State) {c : Counter} (h : c ≠ .delivered) (n : Nat) : Moves s (s.countBy c n) :=
  (Move.counts _ (countersGrow_raiseCounter c n s.counters) (raiseCounter_delivered h n s.counters)).single

theorem moves_count (s : State) {c : Counter} (h : c ≠ .delivered) : Moves s (s.count c) :=
  moves_countBy s h 1

theorem moves_countIf (s : State) (b : Bool) {c : Counter} (h : c ≠ .delivered) : Moves s (s.countIf b c) := by
  rw [countIf_eq]
  exact moves_countBy s h _

theorem moves_append {s : State} {c : QueueClass} (hroom : (s.link.queue c).length < queueDepth c) (dest : Nat)
    (body : Body) : Moves s (s.append c (newEntry dest body)) :=
  (Move.link _ (.joins c dest body hroom)).single

theorem moves_request (s : State) (c : QueueClass) (dest : Nat) (body : Body) : Moves s (s.request c dest body) := by
  rcases request_cases s c dest body with ⟨-, h⟩ | ⟨-, -, h⟩ | ⟨-, hroom, h⟩ <;> rw [h]
  · exact moves_count s (by decide)
  · exact moves_append hroom dest body

theorem moves_requestReport (s : State) (dest : Nat) (body : Body) : Moves s (s.requestReport dest body) :=
  moves_request s .report dest body

theorem moves_requestPath (s : State) (dest : Nat) (body : Body) : Moves s (s.requestPath dest body).1 := by
  rcases requestPath_cases s dest body with ⟨-, h⟩ | ⟨-, -, h⟩ | ⟨-, hroom, h⟩ <;> rw [h]
  exact moves_append (c := .path) hroom dest body

theorem moves_requestCensusPart (s : State) (p : CensusPart) : Moves s (s.requestCensusPart p) := by
  rcases requestCensusPart_cases s p with ⟨-, h⟩ | ⟨-, hroom, h⟩ | ⟨-, -, hany, h⟩ | ⟨-, -, -, h⟩ <;> rw [h]
  · exact moves_append (c := .report) hroom 0 _
  · exact (Move.link _ (.evicts 0 _ hany)).single.trans (moves_count _ (by decide))
  · exact moves_count s (by decide)

theorem moves_queueCensus (s : State) (c : Census) : Moves s (s.queueCensus c) := by
  unfold State.queueCensus
  induction censusParts c generalizing s with
  | nil => exact Moves.refl _
  | cons p ps ih => exact (moves_requestCensusPart s p).trans (ih _)

theorem moves_flushHandoffs (s : State) : Moves s s.flushHandoffs :=
  (Move.link _ .flushes).single

theorem moves_requestHello (s : State) (isFresh : Bool) : Moves s (s.requestHello isFresh) :=
  moves_requestReport s _ _

/-! ## The census -/

theorem moves_formAndQueue (s : State) (lockout : Bool) : Moves s (s.formAndQueue lockout) := by
  unfold State.formAndQueue
  cases h : s.census with
  | some c => exact Moves.refl _
  | none => exact (Move.forms (s.formCensus lockout) h).single.trans (moves_queueCensus _ _)

/-! ## Removals and the gate -/

theorem moves_judgeGate (s : State) : Moves s s.judgeGate := by
  rw [judgeGate_eq]
  exact (Move.gate _).single

theorem moves_removeRecords {s : State} {f : List Machine.Record → List Machine.Record}
    (hs : s.path.state ≠ .unconfigured) (hf : (f s.tracker.table).Sublist s.tracker.table) :
    Moves s (s.removeRecords f) := by
  rcases removeRecords_cases s f with ⟨hempty, hne, h⟩ | ⟨hne, h⟩ <;> rw [h]
  · rw [tableEmptySignal_eq]
    simp only [State.updTable, State.updTracker, hempty]
    exact (Move.empties hs hne).single
  · exact (Move.table _ (.keeps _ hf hne)).single

theorem moves_droppingStep {s : State} (hs : s.path.state ≠ .unconfigured) : Moves s s.droppingStep :=
  (moves_removeRecords hs List.filter_sublist).trans (moves_judgeGate _)

/-! ## Changes of state -/

/-- A door that leaves the records alone. -/
theorem moves_door {s : State} {st : PathState} (timer : Tick) (h : Door s st id) :
    Moves s { s with path := pathWith s st timer } := by
  have hmove := Move.door st id timer h
  rw [List.map_id] at hmove
  exact hmove.single

theorem moves_enterStopping {s : State}
    (h : s.path.state = .run ∨ s.path.state = .decide ∨ s.path.state = .runout) : Moves s s.enterStopping :=
  (Move.door .stopping _ (s.window.timeBase + BitVec.ofNat 16 s.prof.stopSettle) (.stops h)).single

theorem moves_enterLockout {s : State} (h : s.path.state = .runout) : Moves s s.enterLockout :=
  (Move.door .lockout _ 0 (.locks h)).single.trans (moves_formAndQueue _ true)

theorem moves_enterDecide {s : State} (h : s.path.state = .run) : Moves s s.enterDecide :=
  (moves_flushHandoffs s).trans
    (moves_door (s := s.flushHandoffs) (tickPlus s.now decideTicks) (.decides h))

theorem moves_judgeRunout (s : State) : Moves s s.judgeRunout := by
  rcases judgeRunout_cases s with ⟨h, -⟩ | ⟨hs, -, h⟩ <;> rw [h]
  exact moves_enterStopping (.inr (.inr hs))

/-- Run-out eligibility asks for the cover CLOSED (R119). -/
theorem closed_of_eligible {s : State} (h : s.eligible = true) : s.front.cover.level = .closed := by
  simp only [State.eligible, Bool.and_eq_true, beq_iff_eq] at h
  exact h.1.1.1.1

theorem moves_endDecide {s : State} (h : s.path.state = .run ∨ s.path.state = .decide) : Moves s s.endDecide := by
  rcases endDecide_cases s with ⟨he, -, heq⟩ | ⟨-, heq⟩ <;> rw [heq]
  · exact (Move.door .runout _ 0 (.runsOut h (closed_of_eligible he))).single
  · exact moves_enterStopping (h.imp_right .inl)

theorem moves_enterStandby {s : State}
    (h : s.path.state = .linking ∧ s.front.cover.level = .closed ∨ s.path.state = .verify ∧ s.tracker.table = []) :
    Moves s s.enterStandby :=
  (moves_door 0 (.readies h)).trans Move.clearsRunOut.single

theorem moves_judgeLinking {s : State} (h : s.path.state = .linking) : Moves s s.judgeLinking := by
  rcases judgeLinking_cases s with ⟨-, heq⟩ | ⟨-, hcover, -, heq⟩ <;> rw [heq]
  exact moves_enterStandby (.inl ⟨h, hcover⟩)

theorem moves_enterLinking {s : State}
    (h : s.path.state = .standby ∨ s.path.state = .verify ∧ s.tracker.table = []) : Moves s s.enterLinking :=
  (moves_door 0 (.links h)).trans (moves_judgeLinking (s := s.toState .linking) rfl)

theorem moves_startVerify {s : State} (hcover : s.front.cover.level = .closed)
    (h : s.path.state = .stopping ∨ s.path.state = .standby ∨ s.path.state = .verify ∨ s.path.state = .clearing) :
    Moves s s.startVerify :=
  moves_door (s.window.timeBase + BitVec.ofNat 16 s.prof.coverSettle) (.verifies h hcover)

theorem moves_enterClearing {s : State} (hcover : s.front.cover.level = .opened)
    (h : s.path.state = .stopping ∨ s.path.state = .standby ∨ s.path.state = .verify ∨ s.path.state = .clearing
      ∨ s.path.state = .held) : Moves s s.enterClearing :=
  moves_door 0 (.clears h hcover)

/-- HELD entered with its entry check (R113): the check's own change of state overwrites HELD. -/
theorem moves_heldCheck {s : State}
    (h : s.path.state = .stopping ∨ s.path.state = .standby ∨ s.path.state = .verify ∨ s.path.state = .clearing) :
    Moves s (s.toState .held).heldCheck := by
  rcases heldCheck_cases (s.toState .held) with ⟨hcover, heq⟩ | ⟨hcover, -, -, heq⟩ | ⟨hcover, -, heq⟩ <;> rw [heq]
  · exact moves_enterClearing (s := s) hcover (by tauto)
  · exact moves_startVerify (s := s) hcover h
  · exact moves_door 0 (.holds h hcover)

theorem moves_residueFound {s : State} (found : PathState)
    (h : s.path.state = .stopping ∨ s.path.state = .standby ∨ s.path.state = .verify ∨ s.path.state = .clearing) :
    Moves s (s.residueFound found) := by
  unfold State.residueFound
  refine ((moves_count s (c := .residue) (by decide)).trans (moves_requestReport _ _ _)).trans (moves_heldCheck ?_)
  simpa using h

/-! ### Changes of state and the operations that do not see them -/

theorem request_toState (s : State) (st : PathState) (c : QueueClass) (dest : Nat) (body : Body) :
    (s.toState st).request c dest body = (s.request c dest body).toState st := by
  have hfault : (s.toState st).strapFault = s.strapFault := rfl
  have hfull : (s.toState st).queueFull c = s.queueFull c := rfl
  unfold State.request
  rw [hfault, hfull]
  cases s.strapFault <;> cases s.queueFull c <;> rfl

theorem requestCensusPart_toState (s : State) (st : PathState) (p : CensusPart) :
    (s.toState st).requestCensusPart p = (s.requestCensusPart p).toState st := by
  have hfault : (s.toState st).strapFault = s.strapFault := rfl
  have hfull : (s.toState st).queueFull .report = s.queueFull .report := rfl
  unfold State.requestCensusPart
  simp only
  rw [hfault, hfull, State.toState_link]
  cases s.strapFault <;> cases s.queueFull .report <;> cases s.link.report.any Entry.evictable <;> rfl

theorem queueCensus_toState (s : State) (st : PathState) (c : Census) :
    (s.toState st).queueCensus c = (s.queueCensus c).toState st := by
  unfold State.queueCensus
  induction censusParts c generalizing s with
  | nil => rfl
  | cons p ps ih => rw [List.foldl_cons, List.foldl_cons, requestCensusPart_toState, ih]

theorem formAndQueue_toState (s : State) (st : PathState) (lockout : Bool) :
    (s.toState st).formAndQueue lockout = (s.formAndQueue lockout).toState st := by
  unfold State.formAndQueue
  rw [State.toState_census]
  cases s.census with
  | some c => rfl
  | none => exact queueCensus_toState (s.setCensus (some (s.formCensus lockout))) st _

theorem removeRecords_toState (s : State) (st : PathState) (f : List Machine.Record → List Machine.Record) :
    (s.toState st).removeRecords f = (s.removeRecords f).toState st := by
  unfold State.removeRecords
  rw [State.toState_tracker]
  split
  · rw [tableEmptySignal_eq, tableEmptySignal_eq]
    rfl
  · rfl

theorem judgeGate_toState (s : State) (st : PathState) : (s.toState st).judgeGate = s.judgeGate.toState st := by
  rw [judgeGate_eq, judgeGate_eq]
  rfl

theorem droppingStep_toState (s : State) (st : PathState) :
    (s.toState st).droppingStep = s.droppingStep.toState st := by
  unfold State.droppingStep
  rw [removeRecords_toState, judgeGate_toState]

/-- Residue found at VERIFY entry: VERIFY leaves nothing behind (R115). -/
theorem residueFound_toState (s : State) (st found : PathState) :
    (s.toState st).residueFound found = s.residueFound found := by
  have hcount : (s.toState st).count .residue = (s.count .residue).toState st := rfl
  have hset : (s.toState st).coveredSet = s.coveredSet := rfl
  unfold State.residueFound State.requestReport
  rw [hcount, request_toState, hset]
  rfl

theorem moves_enterVerify {s : State} (h : s.path.state = .clearing) (hcover : s.front.cover.level = .closed) :
    Moves s s.enterVerify := by
  rcases enterVerify_cases s with ⟨-, heq⟩ | ⟨-, heq⟩ <;> rw [heq]
  · exact moves_startVerify hcover (by tauto)
  · rw [residueFound_toState]
    exact moves_residueFound _ (by tauto)

/-- HELD entry from STOPPING: the census is formed before the change of state as it is after it. -/
theorem enterHeld_eq (s : State) :
    s.enterHeld
      = ((match s.census with
          | some _ => s
          | none => s.droppingStep.formAndQueue false).toState .held).heldCheck := by
  unfold State.enterHeld
  cases s.census with
  | some c => rfl
  | none => rw [droppingStep_toState, formAndQueue_toState]

@[simp] theorem queueCensus_path (s : State) (c : Census) : (s.queueCensus c).path = s.path := by
  unfold State.queueCensus
  induction censusParts c generalizing s with
  | nil => rfl
  | cons p ps ih => rw [List.foldl_cons, ih, State.requestCensusPart_path]

@[simp] theorem formAndQueue_path (s : State) (lockout : Bool) : (s.formAndQueue lockout).path = s.path := by
  unfold State.formAndQueue
  cases s.census with
  | some c => rfl
  | none => exact queueCensus_path _ _

@[simp] theorem removeRecords_path (s : State) (f : List Machine.Record → List Machine.Record) :
    (s.removeRecords f).path = s.path := by
  rcases removeRecords_cases s f with ⟨-, -, h⟩ | ⟨-, h⟩ <;> simp [h]

@[simp] theorem droppingStep_path (s : State) : s.droppingStep.path = s.path := by simp [State.droppingStep]

theorem moves_enterHeld {s : State} (h : s.path.state = .stopping) : Moves s s.enterHeld := by
  have hs : s.path.state ≠ .unconfigured := by simp [h]
  rw [enterHeld_eq]
  cases s.census with
  | some c => exact moves_heldCheck (.inl h)
  | none =>
    refine ((moves_droppingStep hs).trans (moves_formAndQueue _ false)).trans (moves_heldCheck (.inl ?_))
    simpa using h

/-- A removal of every record leaves none. -/
theorem removeRecords_table (s : State) (f : List Machine.Record → List Machine.Record) :
    (s.removeRecords f).tracker.table = f s.tracker.table := by
  rcases removeRecords_cases s f with ⟨-, -, h⟩ | ⟨-, h⟩ <;> rw [h]
  · rw [State.tableEmptySignal_tracker]
    rfl
  · rfl

theorem moves_clearSegment {s : State} (h : s.path.state = .verify) : Moves s s.clearSegment := by
  have hs : s.path.state ≠ .unconfigured := by simp [h]
  unfold State.clearSegment
  simp only
  generalize hc : ((s.removeRecords fun _ => []).judgeGate.updTracker fun k => { k with runOut := [] }) = cleared
  have hmoves : Moves s cleared := by
    rw [← hc]
    exact ((moves_removeRecords hs (List.nil_sublist _)).trans (moves_judgeGate _)).trans Move.clearsRunOut.single
  have hpath : cleared.path = s.path := by rw [← hc]; simp
  have htable : cleared.tracker.table = [] := by rw [← hc, judgeGate_eq]; exact removeRecords_table s _
  have hready : ∀ (dest : Nat) (body : Body), (cleared.requestReport dest body).path.state = .verify
      ∧ (cleared.requestReport dest body).tracker.table = [] := fun dest body => by simp [hpath, h, htable]
  split
  · exact hmoves.trans ((moves_requestReport cleared _ _).trans (moves_enterStandby (.inr (hready _ _))))
  · exact hmoves.trans ((moves_requestReport cleared _ _).trans (moves_enterLinking (.inr (hready _ _))))

/-! ## Jams -/

theorem capture_afterOwnReport (s : State) (r : JamReport) : (s.afterOwnReport r).capture ≠ none := by
  unfold State.afterOwnReport
  cases h : ownFills s.path.state r.kind s.jam
  · have hfull : s.jam.capture ≠ none := by
      intro hnone
      simp [ownFills, hnone] at h
    simpa [JamMonitor.later] using hfull
  · simp

theorem laterCount_afterOwnReport (s : State) (r : JamReport) :
    (s.afterOwnReport r).laterCount ≤ 255 ∨ (s.afterOwnReport r).laterCount = s.jam.laterCount := by
  unfold State.afterOwnReport
  cases ownFills s.path.state r.kind s.jam
  · left
    simp [JamMonitor.later]
  · right
    simp

@[simp] theorem recordOwn_path (s : State) (r : JamReport) : (s.recordOwn r).path = s.path := by
  rcases recordOwn_cases s r with ⟨-, h⟩ | ⟨-, h⟩ <;> simp [h]

theorem moves_recordOwn (s : State) (r : JamReport) : Moves s (s.recordOwn r) := by
  rcases recordOwn_cases s r with ⟨-, h⟩ | ⟨-, h⟩ <;> rw [h]
  · exact (Move.jam _ (capture_afterOwnReport s r) (laterCount_afterOwnReport s r)).single
  · exact (Move.jam { s.afterOwnReport r with jamSent := true } (capture_afterOwnReport s r)
      (laterCount_afterOwnReport s r)).single.trans (moves_request _ _ _ _)

theorem moves_haltRequest (s : State) : Moves s s.haltRequest := by
  rcases haltRequest_cases s with ⟨hs, h⟩ | ⟨hs, h⟩ | ⟨hs, -, h⟩ | ⟨hs, -, h⟩ | ⟨-, -, -, h⟩ <;> rw [h]
  · exact (moves_flushHandoffs s).trans (moves_enterStopping (.inl hs))
  · exact moves_enterStopping (.inr (.inl hs))
  · exact moves_enterStopping (.inr (.inr hs))
  · exact moves_enterLockout hs

theorem moves_raiseJams (s : State) (rs : List JamReport) : Moves s (s.raiseJams rs) := by
  have hrecord : ∀ (l : List JamReport) (u : State), Moves u (l.foldl State.recordOwn u) := by
    intro l
    induction l with
    | nil => exact fun u => Moves.refl u
    | cons r rest ih => exact fun u => (moves_recordOwn u r).trans (ih _)
  cases rs with
  | nil => exact Moves.refl s
  | cons r rest => exact (hrecord (r :: rest) s).trans (moves_haltRequest _)

/-- The jam items after a line observation: an empty capture is filled with cause LINE (R84). -/
def observed (j : JamMonitor) : JamMonitor :=
  { j with
    capture :=
      match j.capture with
      | none => some { cause := .line, kind := none, sensor := none, sheetId := none, origin := none, rank := none }
      | some x => some x }

theorem observeLine_eq (s : State) : s.observeLine = State.enterDecide { s with jam := observed s.jam } := by
  refine congrArg (fun j => State.enterDecide { s with jam := j }) ?_
  obtain ⟨capture, laterSet, laterCount, highestRank, jamSent⟩ := s.jam
  cases capture <;> rfl

theorem moves_observeLine {s : State} (h : s.path.state = .run) : Moves s s.observeLine := by
  have hcapture : (observed s.jam).capture ≠ none := by
    unfold observed
    cases s.jam.capture <;> simp
  rw [observeLine_eq]
  exact (Move.jam _ hcapture (.inr rfl)).single.trans (moves_enterDecide (s := { s with jam := observed s.jam }) h)

/-- A recorded JAM frame fills the capture, or is a later kind (R86, R87, R90). -/
theorem afterFrame_cases (j : JamMonitor) (source : Nat) (c : JamContents) :
    ((j.capture = none ∨ j.holdsLine = true)
        ∧ j.afterFrame source c
          = { j with
              capture := some
                { cause := .remote, kind := some c.report.kind, sensor := c.report.sensor,
                  sheetId := c.report.sheetId, origin := some source, rank := some c.rank }
              highestRank := max j.highestRank c.rank })
      ∨ (j.capture ≠ none ∧ j.holdsLine = false
        ∧ j.afterFrame source c = { j.later c.report.kind with highestRank := max j.highestRank c.rank }) := by
  unfold JamMonitor.afterFrame
  cases hc : j.capture <;> cases hl : j.holdsLine <;> simp [JamMonitor.later]

theorem moves_afterFrame (s : State) (source : Nat) (c : JamContents) :
    Moves s (s.updJam fun j => j.afterFrame source c) := by
  rcases afterFrame_cases s.jam source c with ⟨-, h⟩ | ⟨hc, -, h⟩
  · refine Move.single (.jam _ ?_ (.inr ?_)) <;> simp [h]
  · refine Move.single (.jam _ ?_ (.inl ?_)) <;> simp [h, JamMonitor.later, hc]

theorem moves_remoteJam (s : State) (rank : Nat) : Moves s (s.remoteJam rank) := by
  unfold State.remoteJam
  cases h : s.path.state <;> simp only <;> try exact Moves.refl s
  case run => exact (moves_flushHandoffs s).trans (moves_endDecide (.inl h))
  case decide => exact moves_endDecide (.inr h)
  case runout =>
    split
    · exact moves_enterStopping (.inr (.inr h))
    · exact Moves.refl s

/-! ## The cover -/

/-- A confirmed cover candidate: the debounced level changes, and the cover event is answered by state (R42, R117). -/
def coverEvent (s : State) : CoverLevel → State
  | .opened => (s.setCover .opened).coverOpens
  | .closed => (s.setCover .closed).coverCloses

theorem moves_coverOpens {s : State} (hcover : s.front.cover.level = .opened) : Moves s s.coverOpens := by
  unfold State.coverOpens
  cases h : s.path.state <;> simp only <;> try exact Moves.refl s
  case run => exact moves_raiseJams s _
  case decide => exact moves_raiseJams s _
  case runout =>
    refine (moves_recordOwn s _).trans (moves_enterStopping (.inr (.inr ?_)))
    simpa using h
  case standby => exact moves_enterClearing hcover (by tauto)
  case held => exact moves_enterClearing hcover (by tauto)
  case verify => exact moves_enterClearing hcover (by tauto)

theorem moves_coverCloses {s : State} (hcover : s.front.cover.level = .closed) : Moves s s.coverCloses := by
  unfold State.coverCloses
  cases h : s.path.state <;> simp only <;> try exact Moves.refl s
  case linking => exact moves_judgeLinking h
  case clearing => exact moves_enterVerify h hcover

theorem moves_coverEvent (s : State) (l : CoverLevel) : Moves (s.setCover l) (coverEvent s l) := by
  cases l
  · exact moves_coverOpens rfl
  · exact moves_coverCloses rfl

end Sys2Proof.Laws
end

section
/-! PROOFS. Edges as runs of moves: a matched edge is one move of the table among counts and requests (chapters 3,
4). -/

namespace Sys2Proof.Laws

open Sys2Proof Sys2Proof.Machine Sys2Proof.Safety

/-! ## Counts and requests leave the rest alone -/

/-- Counters and queues have moved, and nothing that matching reads. -/
structure Aside (s t : State) : Prop where
  moves : Moves s t
  tracker : t.tracker = s.tracker
  setup : t.setup = s.setup
  path : t.path = s.path
  front : t.front = s.front

theorem Aside.refl (s : State) : Aside s s := ⟨.refl s, rfl, rfl, rfl, rfl⟩

theorem Aside.trans {s t u : State} (h : Aside s t) (h' : Aside t u) : Aside s u :=
  ⟨h.moves.trans h'.moves, h'.tracker.trans h.tracker, h'.setup.trans h.setup, h'.path.trans h.path,
    h'.front.trans h.front⟩

theorem aside_countIf (s : State) (b : Bool) {c : Counter} (h : c ≠ .delivered) : Aside s (s.countIf b c) :=
  ⟨moves_countIf s b h, by simp, by simp, by simp, by simp⟩

theorem aside_requestPath (s : State) (dest : Nat) (body : Body) : Aside s (s.requestPath dest body).1 :=
  ⟨moves_requestPath s dest body, by simp, by simp, by simp, by simp⟩

theorem prof_of_setup {s t : State} (h : t.setup = s.setup) : t.prof = s.prof := by
  rw [State.prof, h]
  rfl

theorem Aside.prof {s t : State} (h : Aside s t) : t.prof = s.prof := prof_of_setup h.setup

/-! ## The windows of a matched edge -/

@[simp] theorem windowAt_due_isSome (now anchor : Tick) (o : Offsets) (armed : Bool) :
    (windowAt now anchor o armed).due.isSome = armed := by
  cases armed <;> rfl

theorem giveTrailWindow_eq (k : Nat) (r : Machine.Record) (s : State) :
    giveTrailWindow k r s
      = ({ r with
            trailWindow := some
              (windowAt s.now (r.leadCaptures.getD k 0) (s.trailOffsets r.tag.length) (armingState s.path.state)) },
          s.countIf (s.trailOffsets r.tag.length).saturated .clamp) :=
  rfl

theorem giveLeadWindow_eq (k : Nat) (r : Machine.Record) (s : State) :
    giveLeadWindow k r s
      = ({ r with
            leadWindow := some
              (windowAt s.now (innerAnchor s.prof r k) (s.leadOffsets r.tag.heavy (innerDistance s.prof r k))
                (armingState s.path.state)) },
          s.countIf (s.leadOffsets r.tag.heavy (innerDistance s.prof r k)).saturated .clamp) :=
  rfl

/-- The trail window after a matched LEAD at sensor `k`: a new one where the trail index is `k`, else the one before. -/
def TrailWindowLed (arms : Bool) (k : Nat) (r : Machine.Record) (tw : Option Window) : Prop :=
  (r.trailIndex = k ∧ ∃ w, tw = some w ∧ w.due.isSome = arms) ∨ (r.trailIndex ≠ k ∧ tw = r.trailWindow)

section LeadRecords

variable {n : Nat} {arms : Bool} {k : Nat} {r : Machine.Record} {tw : Option Window} {s : State}

theorem TrailWindowLed.isSome (h : TrailWindowLed arms k r tw) :
    tw.isSome ↔ r.trailIndex = k ∨ r.trailWindow.isSome := by
  rcases h with ⟨hk, w, rfl, -⟩ | ⟨hk, rfl⟩ <;> simp [hk]

theorem TrailWindowLed.armed (h : TrailWindowLed arms k r tw) (hdue : (windowDue tw).isSome) :
    Armed r ∨ arms = true := by
  rcases h with ⟨-, w, rfl, hw⟩ | ⟨-, rfl⟩
  · exact .inr (hw.symm.trans hdue)
  · exact .inl (.inr (.inl hdue))

/-- A LEAD short of the exit sensor leaves a record with its next lead window. -/
theorem leadsTo_inner (hk : k + 1 < n) (c : Tick) (htw : TrailWindowLed arms k r tw) {w : Window}
    (hw : w.due.isSome = arms) :
    LeadsTo n arms k r { s.ledRecord k r c with trailWindow := tw, leadWindow := some w } where
  tag := rfl
  leadIndex := rfl
  trailIndex := rfl
  leadCaptures := ⟨c, rfl⟩
  leadWindow := by simpa using hk
  trailWindow := htw.isSome
  phase := .inl ⟨rfl, rfl, rfl, rfl⟩
  armed := by
    rintro (h | h | h)
    · exact .inr (hw.symm.trans h)
    · exact htw.armed h
    · exact .inl (.inr (.inr h))

/-- A LEAD at the exit sensor with the gate set for the other exit leaves a record that stays RESIDENT (R48). -/
theorem leadsTo_gate (hk : ¬k + 1 < n) (c : Tick) (htw : TrailWindowLed arms k r tw) :
    LeadsTo n arms k r { s.ledRecord k r c with trailWindow := tw, leadWindow := none } where
  tag := rfl
  leadIndex := rfl
  trailIndex := rfl
  leadCaptures := ⟨c, rfl⟩
  leadWindow := by simpa using hk
  trailWindow := htw.isSome
  phase := .inl ⟨rfl, rfl, rfl, rfl⟩
  armed := by
    rintro (h | h | h)
    · cases h
    · exact htw.armed h
    · exact .inl (.inr (.inr h))

/-- An accepted exit step leaves an OUTBOUND record (R49). -/
theorem leadsTo_outbound (hk : ¬k + 1 < n) (c : Tick) (htw : TrailWindowLed arms k r tw) {ob taken : Option Bool}
    {take : Option Deadline}
    (hexit : (ob = some true ∧ taken = none ∧ take = none) ∨ (ob = some false ∧ taken = some false))
    (htake : take.isSome → arms = true) :
    LeadsTo n arms k r
      { s.ledRecord k r c with
        trailWindow := tw, leadWindow := none, phase := .outbound, outputBound := ob, taken := taken,
        takeDue := take } where
  tag := rfl
  leadIndex := rfl
  trailIndex := rfl
  leadCaptures := ⟨c, rfl⟩
  leadWindow := by simpa using hk
  trailWindow := htw.isSome
  phase := .inr ⟨Nat.le_of_not_lt hk, rfl, hexit⟩
  armed := by
    rintro (h | h | h)
    · cases h
    · exact htw.armed h
    · exact .inr (htake h)

end LeadRecords

/-! ## The exit step -/

/-- The exit step: the GATE jam, the way to the tray, or the way to a neighbour (R48, R49). -/
theorem exitStep_cases (r : Machine.Record) (c : Tick) (s : State) :
    (r.exit ≠ s.tracker.gate
        ∧ exitStep r c s
          = (r, s, [{ kind := .gate, sensor := some s.prof.exitSensor, sheetId := some r.tag.sheetId }]))
      ∨ (r.exit = s.tracker.gate ∧ outputBoundFor s.prof r = true
        ∧ exitStep r c s
          = ({ r with phase := .outbound, outputBound := some true, taken := none, takeDue := none }, s, []))
      ∨ (r.exit = s.tracker.gate ∧ outputBoundFor s.prof r = false
        ∧ exitStep r c s
          = ({ r with
                phase := .outbound, outputBound := some false, taken := some false, takeDue := s.takeDeadline r c },
              (s.countIf (decide (maxOffset < s.takeOffset r)) .clamp).requestPath (s.prof.exitStation r.exit)
                (.handoff (sentTag s.prof r) c))) := by
  unfold exitStep
  by_cases hgate : r.exit = s.tracker.gate
  · cases hout : outputBoundFor s.prof r
    · exact .inr (.inr ⟨hgate, rfl, by simp [hgate]⟩)
    · exact .inr (.inl ⟨hgate, rfl, by simp [hgate]⟩)
  · exact .inl ⟨hgate, by simp [hgate]⟩

theorem takeDeadline_isSome (s : State) (r : Machine.Record) (c : Tick) :
    (s.takeDeadline r c).isSome = armingState s.path.state := by
  unfold State.takeDeadline
  cases armingState s.path.state <;> rfl

/-- The windows of a matched LEAD: the record is led, and counters and queues alone move beside it. -/
theorem leadWindows_spec (k : Nat) (r : Machine.Record) (c : Tick) (s : State) :
    LeadsTo s.prof.n (armingState s.path.state) k r (leadWindows k (s.ledRecord k r c) c s).1
      ∧ Aside s (leadWindows k (s.ledRecord k r c) c s).2.1 := by
  obtain ⟨tw, u, htrailed, htw, hu⟩ : ∃ tw u,
      (if (s.ledRecord k r c).trailIndex = k then giveTrailWindow k (s.ledRecord k r c) s else (s.ledRecord k r c, s))
          = ({ s.ledRecord k r c with trailWindow := tw }, u)
        ∧ TrailWindowLed (armingState s.path.state) k r tw ∧ Aside s u := by
    by_cases hk : r.trailIndex = k
    · exact ⟨_, _, if_pos hk, .inl ⟨hk, _, rfl, windowAt_due_isSome _ _ _ _⟩, aside_countIf s _ (by decide)⟩
    · exact ⟨r.trailWindow, s, if_neg hk, .inr ⟨hk, rfl⟩, .refl s⟩
  have hprof := hu.prof
  unfold leadWindows
  simp only [htrailed]
  split
  next hn =>
    rw [giveLeadWindow_eq, hu.path]
    exact ⟨leadsTo_inner hn c htw (windowAt_due_isSome _ _ _ _), hu.trans (aside_countIf u _ (by decide))⟩
  next hn =>
    rcases exitStep_cases { s.ledRecord k r c with trailWindow := tw, leadWindow := none } c u with
      ⟨-, h⟩ | ⟨-, -, h⟩ | ⟨-, -, h⟩ <;> rw [h]
    · exact ⟨leadsTo_gate hn c htw, hu⟩
    · exact ⟨leadsTo_outbound hn c htw (.inl ⟨rfl, rfl, rfl⟩) (fun h => by cases h), hu⟩
    · refine ⟨leadsTo_outbound hn c htw (.inr ⟨rfl, rfl⟩) fun htake => ?_,
        hu.trans ((aside_countIf u _ (by decide)).trans (aside_requestPath _ _ _))⟩
      rw [takeDeadline_isSome, hu.path] at htake
      exact htake

/-! ## Leading edges -/

theorem moves_noteLead (s : State) (k : Nat) (id : SheetId) (w : Window) (c : Tick) :
    Moves s (s.noteLead k id w c) := by
  have hcount : Moves s (s.countIf (isSlip w c) .slip) := moves_countIf s _ (by decide)
  have hslip : ∀ (u : State) (p : Prop) [Decidable p] (b : Body),
      Moves u (if p then u.requestReport jobStation b else u) := by
    intro u p _ b
    split
    · exact moves_requestReport u _ _
    · exact .refl u
  exact (hcount.trans (hslip _ _ _)).trans (hslip _ _ _)

theorem moves_noteMatch (s : State) (k : Nat) (r : Machine.Record) (c : Tick) : Moves s (s.noteMatch k r c) := by
  unfold State.noteMatch
  cases r.leadWindow with
  | none => exact .refl s
  | some w => exact moves_noteLead s k _ w c

theorem moves_requestTaken (s : State) (r : Machine.Record) : Moves s (s.requestTaken r).1 := by
  unfold State.requestTaken
  cases r.source
  · exact .refl s
  · exact moves_requestPath s _ _
  · exact moves_requestPath s _ _

/-- A LEAD at sensor 0 of a sensor that gives edges is a run of moves. -/
theorem moves_matchEntryLead {s : State} (hk : GivesEdges s 0) {p : Machine.Record → Bool} {r : Machine.Record}
    (hr : s.tracker.table.find? p = some r) (hin : r.isInbound = true) (c : Tick) :
    Moves s (matchEntryLead p r c s).1 := by
  obtain ⟨hled, haside⟩ := leadWindows_spec 0 r c s
  unfold matchEntryLead
  generalize leadWindows 0 (s.ledRecord 0 r c) c s = e at hled haside
  obtain ⟨moved, s1, jams⟩ := e
  have htable : Move s1 (s1.updTable fun l => insertResident moved (l.eraseP p)) := by
    refine .table _ (.enters p r moved ?_ ?_ hin ?_)
    · rwa [GivesEdges, haside.front]
    · rwa [haside.tracker]
    · rwa [haside.prof, haside.path]
  exact (((haside.moves.trans htable.single).trans (moves_requestTaken _ r)).trans (moves_noteMatch _ 0 r c)).trans
    (moves_judgeGate _)

/-- A LEAD at a later sensor that gives edges is a run of moves. -/
theorem moves_matchInnerLead {s : State} {k : Nat} (hk : GivesEdges s k) (h1 : 1 ≤ k) {r : Machine.Record}
    (hr : s.tracker.table.find? (innerChoice k) = some r) (c : Tick) :
    Moves s (matchInnerLead (innerChoice k) k r c s).1 := by
  obtain ⟨hled, haside⟩ := leadWindows_spec k r c s
  unfold matchInnerLead
  generalize leadWindows k (s.ledRecord k r c) c s = e at hled haside
  obtain ⟨moved, s1, jams⟩ := e
  have htable : Move s1 (s1.updTable fun l => updateFirst (innerChoice k) (fun _ => moved) l) := by
    refine .table _ (.advances k r moved ?_ h1 ?_ ?_)
    · rwa [GivesEdges, haside.front]
    · rwa [haside.tracker]
    · rwa [haside.prof, haside.path]
  exact ((haside.moves.trans htable.single).trans (moves_noteMatch _ k r c)).trans (moves_judgeGate _)

theorem moves_takeEntryLead {s : State} (hk : GivesEdges s 0) (c : Tick) : Moves s (takeEntryLead c s).1 := by
  unfold takeEntryLead
  cases hr : s.tracker.table.find? (s.entryChoice c) with
  | some r =>
    have hin : r.isInbound = true := by
      have hchosen := List.find?_some hr
      rw [State.entryChoice, Bool.and_eq_true] at hchosen
      exact hchosen.1
    exact moves_matchEntryLead hk hr hin c
  | none => cases s.tracker.table.find? Record.isInbound <;> exact .refl s

theorem moves_takeInnerLead {s : State} {k : Nat} (hk : GivesEdges s k) (h1 : 1 ≤ k) (c : Tick) :
    Moves s (takeInnerLead k c s).1 := by
  unfold takeInnerLead
  cases hr : s.tracker.table.find? (innerChoice k) with
  | none => exact .refl s
  | some r =>
    simp only
    split
    · exact moves_matchInnerLead hk h1 hr c
    · exact .refl s

/-! ## Trailing edges -/

theorem trailRecord_spec (k : Nat) (r : Machine.Record) (s : State) :
    TrailsTo (armingState s.path.state) k r (trailRecord k r s).1 ∧ Aside s (trailRecord k r s).2 := by
  unfold trailRecord
  split
  next h =>
    rw [giveTrailWindow_eq]
    refine ⟨?_, aside_countIf s _ (by decide)⟩
    constructor <;> try rfl
    · simpa using h
    · rintro (hd | hd | hd)
      · exact .inl (.inl hd)
      · exact .inr ((windowAt_due_isSome _ _ _ _).symm.trans hd)
      · exact .inl (.inr (.inr hd))
  next h =>
    refine ⟨?_, .refl s⟩
    constructor <;> try rfl
    · simpa using h
    · rintro (hd | hd | hd)
      · exact .inl (.inl hd)
      · cases hd
      · exact .inl (.inr (.inr hd))

theorem moves_noteTrail (s : State) (k : Nat) (id : SheetId) (length : Nat) : Moves s (s.noteTrail k id length) := by
  unfold State.noteTrail
  split
  · exact moves_requestReport s _ _
  · exact .refl s

/-- A delivery is counted, and its tag kept as the last delivered (R15, R19). -/
def delivering (s : State) (tag : SheetTag) : State :=
  (s.updTracker fun k => { k with lastDelivered := some tag }).count .delivered

theorem moves_deliver {s : State} (hs : s.path.state ≠ .unconfigured) (p : Machine.Record → Bool) (tag : SheetTag) :
    Moves (delivering s tag) (s.deliver p tag) := by
  have hlisted : Moves (delivering s tag)
      (if s.path.state = .runout then
        ((delivering s tag).updTracker fun k => { k with runOut := runOutAppend tag k.runOut }).countIf
          (runOutOverflows tag s.tracker.runOut) .reportDrop
      else delivering s tag) := by
    split
    · exact (Move.listsRunOut tag).single.trans (moves_countIf _ _ (by decide))
    · exact .refl _
  refine hlisted.trans (moves_removeRecords ?_ List.eraseP_sublist)
  split <;> simpa [delivering] using hs

theorem moves_pass {s : State} (hs : s.path.state ≠ .unconfigured) (p : Machine.Record → Bool) : Moves s (s.pass p) :=
  (moves_count s (c := .passed) (by decide)).trans (moves_removeRecords (by simpa using hs) List.eraseP_sublist)

/-- A run of moves, with at most one delivery among them: of a record of the table. -/
def Delivers (s t : State) : Prop :=
  Moves s t ∨ ∃ u, ∃ r ∈ s.tracker.table, Moves s u ∧ Moves (delivering u r.tag) t

theorem Delivers.trans_moves {s t u : State} (h : Delivers s t) (h' : Moves t u) : Delivers s u := by
  rcases h with h | ⟨v, r, hr, h1, h2⟩
  · exact .inl (h.trans h')
  · exact .inr ⟨v, r, hr, h1, h2.trans h'⟩

theorem delivers_matchTrail {s : State} (hs : s.path.state ≠ .unconfigured) {k : Nat} {r : Machine.Record}
    (hr : s.tracker.table.find? (trailChoice k) = some r) (c : Tick) :
    Delivers s (matchTrail (trailChoice k) k r c s) := by
  obtain ⟨htrailed, haside⟩ := trailRecord_spec k r s
  unfold matchTrail
  generalize trailRecord k r s = e at htrailed haside
  obtain ⟨trailed, s1⟩ := e
  have hs1 : s1.path.state ≠ .unconfigured := by rwa [haside.path]
  have htable : Move s1 (s1.updTable fun l => updateFirst (trailChoice k) (fun _ => trailed) l) := by
    refine .table _ (.trails k r trailed ?_ ?_)
    · rwa [haside.tracker]
    · rwa [haside.path]
  have hstays := ((haside.moves.trans htable.single).trans
    (moves_noteTrail _ k r.tag.sheetId (s.trailLength k r c))).trans (moves_judgeGate _)
  have hafter : ∀ u : State, Moves u (((u.noteTrail k r.tag.sheetId (s.trailLength k r c)).judgeGate).judgeRunout) :=
    fun u => ((moves_noteTrail u _ _ _).trans (moves_judgeGate _)).trans (moves_judgeRunout _)
  simp only
  split
  · cases removalOf r
    · exact .inr ⟨s1, r, List.mem_of_find?_eq_some hr, haside.moves, (moves_deliver hs1 _ _).trans (hafter _)⟩
    · exact .inl ((haside.moves.trans (moves_pass hs1 _)).trans (hafter _))
    · exact .inl hstays
  · exact .inl hstays

theorem delivers_takeTrail {s : State} (hs : s.path.state ≠ .unconfigured) (k : Nat) (c : Tick) :
    Delivers s (takeTrail k c s).1 := by
  unfold takeTrail
  cases hr : s.tracker.table.find? (trailChoice k) with
  | none => exact .inl (moves_count s (by decide))
  | some r =>
    simp only
    split
    · exact delivers_matchTrail hs hr c
    · exact .inl (.refl s)

/-! ## Where edges go -/

theorem ne_unconfigured_of_matching {st : PathState} (h : matchingState st = true) : st ≠ .unconfigured := by
  rintro rfl
  cases h

theorem delivers_takeEdge {s : State} {k : Nat} (hk : GivesEdges s k) (l : Level) (c : Tick) :
    Delivers s (s.takeEdge k l c) := by
  unfold State.takeEdge
  split
  next hs =>
    cases l with
    | covered =>
      have hlead : Moves s (if k = 0 then takeEntryLead c s else takeInnerLead k c s).1 := by
        split
        next h0 =>
          subst h0
          exact moves_takeEntryLead hk c
        next h0 => exact moves_takeInnerLead hk (Nat.one_le_iff_ne_zero.2 h0) c
      exact .inl (hlead.trans (moves_raiseJams _ _))
    | clear => exact (delivers_takeTrail (ne_unconfigured_of_matching hs) k c).trans_moves (moves_raiseJams _ _)
  next =>
    split
    next hs => exact .inl (moves_judgeLinking hs)
    next =>
      split
      next hs => exact .inl (moves_residueFound _ (by tauto))
      next => exact .inl (.refl s)

end Sys2Proof.Laws
end

section
/-! PROOFS. What each command does, said once for every command: a run of moves, or one of the events that do more. -/

namespace Sys2Proof.Laws

open Sys2Proof Sys2Proof.Machine Sys2Proof.Safety

/-! ## The events that do more than move -/

/-- The station after HARDWARE_RESET (R118). -/
def resetState (s : State) : State :=
  { State.reset with
    path := { State.reset.path with othersHold := s.path.othersHold }
    eventsDrawn := s.eventsDrawn
    pending := s.pending }

/-- The station at the release of reset, its fresh HELLO not asked for yet (R41, R158). -/
def released (s : State) (straps : BitVec 4) (sns : Vector Level 4) (cvr : CoverLevel) : State :=
  { s with
    inReset := false
    setup := { s.setup with straps := straps }
    front := { sensors := sns.map sampledSensor, cover := sampledCover cvr } }

/-- A SETUP stored, its HELLO not asked for yet (R167). -/
def stored (s : State) (f : SetupFrame) : State :=
  ((((s.updSetup fun u => { u with profile := some (profileOf f) }).countBy .clamp (setupClamps f)).updPath fun c =>
    { c with epoch := f.epoch }).updWindow fun w =>
      { w with currentSpeed := some (profileOf f).speed, pendingSpeed := none }).updFront fun e =>
        e.withModes (profileOf f)

/-- What a command does: a run of moves out of reset, or one of the few events that change more. -/
inductive Effect (c : Instr) (s : State) : State → Prop
  | moves {t : State} (hrun : s.inReset = false) (h : Moves s t) : Effect c s t
  /-- In reset a command acts on nothing, but that the pin of the halt line is kept (log 8). -/
  | waits (others : Bool) (hreset : s.inReset = true) :
      Effect c s { s with path := { s.path with othersHold := others } }
  | resets (hc : c = .hardwareReset) : Effect c s (resetState s)
  | releases {t : State} (straps : BitVec 4) (sns : Vector Level 4) (cvr : CoverLevel)
      (hc : c = .resetRelease straps sns cvr) (hreset : s.inReset = true)
      (h : Moves (released s straps sns cvr) t) : Effect c s t
  | restarts (hrun : s.inReset = false) (hb : Brings s c (.restart 0)) :
      Effect c s ((received s).restartBlocks.requestHello true)
  | setsUp {t : State} (hrun : s.inReset = false) (f : SetupFrame) (own : Nat) (hb : Brings s c (.setup 0 f))
      (hown : s.stationNumber = some own) (hs : s.path.state = .unconfigured) (hf : setupFaulty own f = false)
      (h : Moves ((stored (received s) f).toState .linking) t) : Effect c s t
  | resumes (hrun : s.inReset = false) (epoch : Byte) (hb : Brings s c (.resume 0 epoch))
      (hs : s.path.state = .standby) (hline : s.path.lineHigh = true) (he : epoch ≠ s.path.epoch) :
      Effect c s ((received s).acceptResume epoch)
  | greets {t : State} (hrun : s.inReset = false) (source : Byte) (f : HelloFrame) (hb : Brings s c (.hello source f))
      (h : Moves ((received s).setRosterEntry source.toNat (entryOfHello f)) t) : Effect c s t
  | covers (hrun : s.inReset = false) (l : CoverLevel) : Effect c s (coverEvent s l)
  | delivers {t u : State} (hrun : s.inReset = false) (r : Machine.Record) (hr : r ∈ s.tracker.table)
      (hc : (∃ k, c = .filterConfirm k) ∨ ∃ k l, c = .rawEdge k l) (h1 : Moves s u)
      (h2 : Moves (delivering u r.tag) t) : Effect c s t

theorem Effect.stays (c : Instr) (s : State) : Effect c s s := by
  cases hr : s.inReset
  · exact .moves hr (.refl s)
  · exact .waits s.path.othersHold hr

/-- A command that acts out of reset alone. -/
theorem effect_whileRunning {c : Instr} {s t : State} {f : State → State}
    (hf : s.inReset = false → Effect c s (f s)) (h : whileRunning s f = .next t) : Effect c s t := by
  rcases whileRunning_cases h with ⟨-, rfl⟩ | ⟨hr, rfl⟩
  · exact .stays c t
  · exact hf hr

/-! ## The Sensor Front End and the halt line -/

theorem move_updSensor {s : State} {k : Fin 4} {f : Sensor → Sensor}
    (h : SensorMove s.front.sensors[k] (f s.front.sensors[k])) : Move s (s.updSensor k f) :=
  .front _ (.sensor k _ h)

theorem moves_setPin (s : State) (k : Fin 4) (l : Level) : Moves s (s.setPin k l) :=
  (move_updSensor ⟨rfl, .inl ⟨rfl, .inl rfl⟩⟩).single

@[simp] theorem updSensor_sensor (s : State) (k : Fin 4) (f : Sensor → Sensor) :
    (s.updSensor k f).front.sensors[k] = f s.front.sensors[k] := by
  simp [State.updSensor, State.updFront]

theorem moves_follow {s : State} {k : Fin 4} (hmode : s.front.sensors[k].mode ≠ .filtered) (l : Level) :
    Moves s (s.follow k l) :=
  (move_updSensor ⟨rfl, .inl ⟨rfl, .inr hmode⟩⟩).single

theorem moves_setPin_follow {s : State} {k : Fin 4} (hmode : s.front.sensors[k].mode ≠ .filtered) (l : Level) :
    Moves s ((s.setPin k l).follow k l) := by
  refine (moves_setPin s k l).trans (moves_follow ?_ l)
  rwa [State.setPin, updSensor_sensor]

theorem moves_sampleFiltered {s : State} {k : Fin 4} (hmode : s.front.sensors[k].mode = .filtered) (l : Level) :
    Moves s (s.sampleFiltered k l) := by
  unfold State.sampleFiltered
  cases s.front.sensors[k].candidate <;> simp only <;> split
  · exact .refl s
  next hl => exact (move_updSensor ⟨rfl, .inr (.inr ⟨_, rfl, hmode, hl⟩)⟩).single
  · exact (move_updSensor ⟨rfl, .inr (.inl rfl)⟩).single.trans (moves_count _ (by decide))
  · exact .refl s

theorem effect_sensorInputChange {s t : State} {k : Fin 4} {l : Level}
    (h : execSensorInputChange k l s = .next t) : Effect (.sensorInputChange k l) s t := by
  unfold execSensorInputChange at h
  refine effect_whileRunning (fun hr => .moves hr ?_) h
  cases hmode : s.front.sensors[k].mode <;> simp only
  · exact moves_setPin_follow (by rw [hmode]; decide) l
  · refine (moves_setPin s k l).trans (moves_sampleFiltered ?_ l)
    rwa [State.setPin, updSensor_sensor]
  · exact moves_setPin s k l

/-- An edge handed on by a sensor that gives edges. -/
theorem effect_of_delivers {c : Instr} {s u t : State} (hr : s.inReset = false)
    (hc : (∃ k, c = .filterConfirm k) ∨ ∃ k l, c = .rawEdge k l) (hu : Moves s u) (htracker : u.tracker = s.tracker)
    (h : Delivers u t) : Effect c s t := by
  rcases h with h | ⟨v, r, hmem, h1, h2⟩
  · exact .moves hr (hu.trans h)
  · exact .delivers hr r (by rwa [htracker] at hmem) hc (hu.trans h1) h2

theorem effect_filterConfirm {s t : State} {k : Fin 4} (h : execFilterConfirm k s = .next t) :
    Effect (.filterConfirm k) s t := by
  unfold execFilterConfirm at h
  refine effect_whileRunning (fun hr => ?_) h
  cases s.front.sensors[k].candidate with
  | none => exact .stays _ s
  | some c =>
    simp only
    split
    next hreached =>
      rw [State.filterReached, Bool.and_eq_true, beq_iff_eq] at hreached
      refine effect_of_delivers hr (.inl ⟨k, rfl⟩) (move_updSensor ⟨rfl, .inr (.inl rfl)⟩).single
        (State.updSensor_tracker s k _) (delivers_takeEdge ⟨k, rfl, ?_⟩ _ _)
      rw [updSensor_sensor, hreached.1]
      decide
    next => exact .stays _ s

theorem effect_rawEdge {s t : State} {k : Fin 4} {l : Level} (h : execRawEdge k l s = .next t) :
    Effect (.rawEdge k l) s t := by
  unfold execRawEdge at h
  refine effect_whileRunning (fun hr => ?_) h
  cases hmode : s.front.sensors[k].mode <;> simp only
  · exact .moves hr (moves_setPin_follow (by rw [hmode]; decide) l)
  · exact .moves hr (moves_setPin s k l)
  · split
    · exact .moves hr (moves_setPin s k l)
    · refine effect_of_delivers hr (.inr ⟨k, l, rfl⟩) (moves_setPin_follow (by rw [hmode]; decide) l) rfl
        (delivers_takeEdge ⟨k, rfl, ?_⟩ _ _)
      rw [State.follow, updSensor_sensor, State.setPin, updSensor_sensor, hmode]
      decide

theorem effect_coverInputChange {s t : State} {l : CoverLevel} (h : execCoverInputChange l s = .next t) :
    Effect (.coverInputChange l) s t := by
  unfold execCoverInputChange at h
  refine effect_whileRunning (fun hr => .moves hr (Move.front _ (.cover _ ?_)).single) h
  simp only
  split
  · rfl
  · split <;> rfl

theorem effect_coverConfirm {s t : State} (h : execCoverConfirm s = .next t) : Effect .coverConfirm s t := by
  unfold execCoverConfirm at h
  refine effect_whileRunning (fun hr => ?_) h
  cases s.front.cover.candidate with
  | none => exact .stays _ s
  | some c =>
    simp only
    split
    · cases hl : c.level
      · exact .covers hr .opened
      · exact .covers hr .closed
    · exact .stays _ s

theorem effect_haltLineChange {s t : State} {others : Bool} (h : exec (.haltLineChange others) s = .next t) :
    Effect (.haltLineChange others) s t := by
  have ht : (if s.inReset then s.setOthersHold others else (s.setOthersHold others).sampleLine) = t := by
    injection h
  subst ht
  split
  next hr => exact .waits others hr
  next hr =>
    refine .moves (by simpa using hr) ?_
    unfold State.sampleLine
    simp only
    split
    next hs => exact (Move.line _ others).single.trans (moves_observeLine hs.1)
    next => exact (Move.line _ others).single

/-! ## Expiries -/

theorem moves_updSheet (s : State) (id : SheetId) {f : Machine.Record → Machine.Record}
    (hf : f = Record.leadDisarmed ∨ f = Record.trailDisarmed ∨ f = Record.takeDisarmed) : Moves s (s.updSheet id f) :=
  (Move.table _ (.disarms _ f hf)).single

theorem effect_leadExpiry {s t : State} {id : SheetId} (h : execLeadExpiry id s = .next t) :
    Effect (.leadExpiry id) s t := by
  unfold execLeadExpiry at h
  refine effect_whileRunning (fun hr => .moves hr ?_) h
  have hoff := moves_updSheet s id (.inl rfl)
  cases s.findSheet id with
  | none => exact .refl s
  | some r =>
    simp only
    split
    · split
      · exact hoff.trans (moves_raiseJams _ _)
      · exact hoff
    · exact .refl s

theorem effect_trailExpiry {s t : State} {id : SheetId} (h : execTrailExpiry id s = .next t) :
    Effect (.trailExpiry id) s t := by
  unfold execTrailExpiry at h
  refine effect_whileRunning (fun hr => .moves hr ?_) h
  have hoff := moves_updSheet s id (.inr (.inl rfl))
  cases s.findSheet id with
  | none => exact .refl s
  | some r =>
    simp only
    split
    · split
      · cases s.stableLevel r.trailIndex <;> simp only
        · split
          next hs => exact hoff.trans (moves_enterStopping (.inr (.inr hs)))
          next => exact hoff
        · exact hoff.trans (moves_raiseJams _ _)
      · exact hoff
    · exact .refl s

theorem effect_takeExpiry {s t : State} {id : SheetId} (h : execTakeExpiry id s = .next t) :
    Effect (.takeExpiry id) s t := by
  unfold execTakeExpiry at h
  refine effect_whileRunning (fun hr => .moves hr ?_) h
  have hoff := moves_updSheet s id (.inr (.inr rfl))
  cases s.findSheet id with
  | none => exact .refl s
  | some r =>
    simp only
    split
    · split
      · exact hoff.trans (moves_raiseJams _ _)
      · exact hoff
    · exact .refl s

theorem effect_decideTimerExpiry {s t : State} (h : execDecideTimerExpiry s = .next t) :
    Effect .decideTimerExpiry s t := by
  unfold execDecideTimerExpiry at h
  refine effect_whileRunning (fun hr => .moves hr ?_) h
  split
  next hs => exact moves_endDecide (.inr hs.1)
  next => exact .refl s

theorem effect_stopSettleExpiry {s t : State} (h : execStopSettleExpiry s = .next t) :
    Effect .stopSettleExpiry s t := by
  unfold execStopSettleExpiry at h
  refine effect_whileRunning (fun hr => .moves hr ?_) h
  split
  next hs => exact moves_enterHeld hs.1
  next => exact .refl s

theorem effect_coverSettleExpiry {s t : State} (h : execCoverSettleExpiry s = .next t) :
    Effect .coverSettleExpiry s t := by
  unfold execCoverSettleExpiry at h
  refine effect_whileRunning (fun hr => .moves hr ?_) h
  split
  next hs => exact moves_clearSegment hs.1
  next => exact .refl s

/-! ## The owners of the frames -/

theorem moves_received (s : State) : Moves s (received s) :=
  (Move.link _ (.hears .waiting [] 0 0 (.inl rfl) (.inr (.inr (.inl ⟨by decide, rfl⟩))))).single

theorem moves_createRecord {s : State} (hs : matchingState s.path.state = true) (hprofile : s.setup.profile ≠ none)
    {tag : WireTag} (hroom : s.tableFull = false) (hnew : s.holdsSheet tag.sheetId = false) (source : Source)
    (anchor : Tick) : Moves s (s.createRecord tag source anchor) := by
  have hlength : s.tracker.table.length < 8 := by
    rw [State.tableFull, decide_eq_false_iff_not] at hroom
    exact Nat.lt_of_not_le hroom
  have hids : ∀ r ∈ s.tracker.table, r.tag.sheetId ≠ tag.sheetId := by
    simpa [State.holdsSheet, Record.isSheet] using hnew
  exact (((Move.table _ (.creates tag source anchor hs hprofile hlength hids)).single.trans
    (moves_countIf _ _ (by decide))).trans (moves_countIf _ _ (by decide))).trans (moves_judgeGate _)

theorem moves_launchReceived (s : State) (source : Byte) (tag : WireTag) : Moves s (s.launchReceived source tag) := by
  by_cases hsource : source = 0
  · subst hsource
    cases h : s.launchRefusal tag.sheetId with
    | some reason =>
      rw [State.launchReceived, commandFrom_zero]
      simp only [h]
      exact (moves_count s (by decide)).trans (moves_requestReport _ _ _)
    | none =>
      rw [launchReceived_of_no_refusal h]
      unfold State.launchRefusal at h
      split_ifs at h with hrun hfeed hfull hheld
      have hprofile : s.setup.profile ≠ none := by
        intro hnone
        simp [State.prof, hnone, Profile.blank, noRoles] at hfeed
      exact moves_createRecord (by simp [not_not.1 hrun, matchingState]) hprofile (by simpa using hfull)
        (by simpa using hheld) _ _
  · rw [launchReceived_of_source_ne hsource]
    exact moves_count s (by decide)

theorem moves_handoffReceived (s : State) (source : Byte) (tag : WireTag) (age : BitVec 16) :
    Moves s (s.handoffReceived source tag age) := by
  unfold State.handoffReceived
  cases hup : upstreamOf s.prof source.toNat with
  | none => exact moves_count s (by decide)
  | some up =>
    have hprofile : s.setup.profile ≠ none := by
      intro hnone
      by_cases h0 : source.toNat = 0 <;> simp [State.prof, hnone, Profile.blank, upstreamOf, h0] at hup
    simp only
    split
    next hs =>
      unfold State.takeHandoff
      split_ifs with hfull hheld
      · exact moves_raiseJams s _
      · exact moves_raiseJams s _
      · exact moves_createRecord hs hprofile (by simpa using hfull) (by simpa using hheld) _ _
    next => exact moves_count s (by decide)

theorem moves_takenReceived (s : State) (source : Byte) (id : SheetId) : Moves s (s.takenReceived source id) := by
  unfold State.takenReceived
  cases s.tracker.table.find? (takenChoice id) with
  | none => exact moves_count s (by decide)
  | some r =>
    simp only
    split
    next h =>
      simp only [Bool.and_eq_true] at h
      unfold State.acceptTaken
      split
      · exact ((moves_pass (ne_unconfigured_of_matching h.1.1) _).trans (moves_judgeGate _)).trans
          (moves_judgeRunout _)
      · exact (Move.table _ (.confirms id)).single
    next => exact moves_count s (by decide)

theorem clampTo_bounds {lo hi : Nat} (h : lo ≤ hi) (v : Nat) : lo ≤ clampTo lo hi v ∧ clampTo lo hi v ≤ hi := by
  unfold clampTo
  omega

/-- An accepted SPEED, as one update of the window (R36). -/
theorem takeSpeed_eq (s : State) (value : Nat) :
    s.takeSpeed value
      = { s.countIf (clampTo 50 1600 value != value) .clamp with
          window :=
            if s.tracker.table = [] then
              { s.window with currentSpeed := some (clampTo 50 1600 value), pendingSpeed := none }
            else { s.window with pendingSpeed := some (clampTo 50 1600 value) } } := by
  unfold State.takeSpeed State.updWindow
  cases s.tracker.table <;> simp

theorem moves_takeSpeed {s : State} (hs : s.path.state ≠ .unconfigured) (value : Nat) :
    Moves s (s.takeSpeed value) := by
  have hcount := moves_countIf s (clampTo 50 1600 value != value) (c := .clamp) (by decide)
  have hmove := Move.speeds (s := s.countIf (clampTo 50 1600 value != value) .clamp) (clampTo 50 1600 value)
    (by simpa using hs) (clampTo_bounds (by decide) value)
  rw [takeSpeed_eq]
  simp only [State.countIf_tracker, State.countIf_window] at hmove ⊢
  exact hcount.trans hmove.single

theorem moves_commandFrom {s : State} (source : Byte) {f : State → State} (hf : Moves s (f s)) :
    Moves s (s.commandFrom source f) := by
  unfold State.commandFrom
  split
  · exact hf
  · exact moves_count s (by decide)

theorem moves_speedReceived (s : State) (source : Byte) (value : BitVec 16) :
    Moves s (s.speedReceived source value) := by
  refine moves_commandFrom source ?_
  split
  · exact moves_count s (by decide)
  next hs => exact moves_takeSpeed hs _

theorem moves_queryStatusReceived (s : State) (source : Byte) : Moves s (s.queryStatusReceived source) :=
  moves_commandFrom source (moves_requestReport s _ _)

theorem moves_queryCensusReceived (s : State) (source : Byte) : Moves s (s.queryCensusReceived source) := by
  refine moves_commandFrom source ?_
  cases s.census with
  | some c => exact moves_queueCensus s c
  | none => exact moves_count s (by decide)

theorem moves_jamReceived (s : State) (source : Byte) (f : JamFrame) : Moves s (s.jamReceived source f) := by
  unfold State.jamReceived
  split
  · exact .refl s
  · cases s.jamAccepted source.toNat f with
    | none => exact moves_count s (by decide)
    | some c => exact (moves_afterFrame s _ c).trans (moves_remoteJam _ _)

theorem moves_replyHello (s : State) (f : HelloFrame) : Moves s (s.replyHello f) := by
  unfold State.replyHello
  split
  · exact moves_requestHello s _
  · exact .refl s

theorem moves_peerJam (s : State) (n : Nat) (f : HelloFrame) : Moves s (s.peerJam n f) := by
  unfold State.peerJam
  split
  · exact moves_raiseJams s _
  · exact .refl s

theorem moves_rosterChanged (s : State) (n : Nat) (old new : RosterEntry) : Moves s (s.rosterChanged n old new) := by
  unfold State.rosterChanged
  cases hs : s.path.state <;> simp only <;> try exact Moves.refl s
  case standby =>
    split
    · exact moves_enterLinking (.inl hs)
    · exact .refl s
  case linking =>
    split
    · exact .refl s
    · exact moves_judgeLinking hs

theorem moves_takeHello (s : State) (n : Nat) (f : HelloFrame) :
    Moves (s.setRosterEntry n (entryOfHello f)) (s.takeHello n f) :=
  ((moves_replyHello _ f).trans (moves_peerJam _ n f)).trans (moves_rosterChanged _ n _ _)

theorem requestHello_toState (s : State) (st : PathState) (isFresh : Bool) :
    (s.toState st).requestHello isFresh = (s.requestHello isFresh).toState st :=
  request_toState s st .report broadcast (.hello (s.helloNow isFresh))

theorem storeSetup_eq (s : State) (f : SetupFrame) : s.storeSetup f = (stored s f).requestHello false := rfl

theorem moves_storeSetup (s : State) (f : SetupFrame) :
    Moves ((stored s f).toState .linking) (s.storeSetup f).enterLinking := by
  rw [storeSetup_eq, State.enterLinking, ← requestHello_toState]
  refine (moves_requestHello _ false).trans (moves_judgeLinking ?_)
  simp [State.requestHello, toState_path]

/-! ## Received frames -/

theorem effect_setupReceived {c : Instr} {s : State} {source : Byte} {f : SetupFrame} (hr : s.inReset = false)
    (hb : Brings s c (.setup source f)) : Effect c s ((received s).setupReceived source f) := by
  have hcount : Moves s ((received s).count .refused) := (moves_received s).trans (moves_count _ (by decide))
  by_cases hsource : source = 0
  · subst hsource
    rw [State.setupReceived, commandFrom_zero]
    split
    · exact .moves hr hcount
    next hrefuses =>
      cases hown : s.stationNumber with
      | none =>
        have hnone : (received s).stationNumber = none := hown
        simp [State.refusesSetup, hnone] at hrefuses
      | some own =>
        have hsome : (received s).stationNumber = some own := hown
        simp only [State.refusesSetup, hsome, Bool.or_eq_true, bne_iff_ne, ne_eq, not_or, not_not,
          Bool.not_eq_true] at hrefuses
        exact .setsUp hr f own hb hown hrefuses.1 hrefuses.2 (moves_storeSetup _ f)
  · rw [State.setupReceived, commandFrom_of_ne hsource]
    exact .moves hr hcount

theorem effect_helloReceived {c : Instr} {s : State} {source : Byte} {f : HelloFrame} (hr : s.inReset = false)
    (hb : Brings s c (.hello source f)) : Effect c s ((received s).helloReceived source f) := by
  unfold State.helloReceived
  split_ifs
  · exact .moves hr (moves_received s)
  · exact .greets hr source f hb (moves_takeHello _ _ f)
  · exact .moves hr ((moves_received s).trans (moves_count _ (c := .refused) (by decide)))

theorem effect_resumeReceived {c : Instr} {s : State} {source epoch : Byte} (hr : s.inReset = false)
    (hb : Brings s c (.resume source epoch)) : Effect c s ((received s).resumeReceived source epoch) := by
  by_cases h : source = 0 ∧ s.path.state = .standby ∧ s.path.lineHigh = true ∧ epoch ≠ s.path.epoch
  · obtain ⟨rfl, hs, hline, he⟩ := h
    rw [resumeReceived_of_accepted (s := received s) ⟨hs, hline, he⟩]
    exact .resumes hr epoch hb hs hline he
  · rw [resumeReceived_of_refused (s := received s) h]
    exact .moves hr ((moves_received s).trans (moves_count _ (by decide)))

theorem effect_restartReceived {c : Instr} {s : State} {source : Byte} (hr : s.inReset = false)
    (hb : Brings s c (.restart source)) : Effect c s ((received s).restartReceived source) := by
  by_cases hsource : source = 0
  · subst hsource
    rw [State.restartReceived, commandFrom_zero]
    split
    · exact .moves hr (moves_received s)
    · exact .restarts hr hb
  · rw [State.restartReceived, commandFrom_of_ne hsource]
    exact .moves hr ((moves_received s).trans (moves_count _ (by decide)))

/-- A frame that a command brings to its end reaches its owner (R148). -/
theorem effect_handToOwner {c i : Instr} {s : State} (hr : s.inReset = false) (hb : Brings s c i) :
    Effect c s ((received s).handToOwner i) := by
  have hmoves : ∀ {t : State}, Moves (received s) t → Effect c s t :=
    fun h => .moves hr ((moves_received s).trans h)
  cases i with
  | setup source f => exact effect_setupReceived hr hb
  | hello source f => exact effect_helloReceived hr hb
  | launch source tag => exact hmoves (moves_launchReceived _ source tag)
  | handoff source tag age => exact hmoves (moves_handoffReceived _ source tag age)
  | taken source sheet => exact hmoves (moves_takenReceived _ source sheet)
  | speed source value => exact hmoves (moves_speedReceived _ source value)
  | resume source epoch => exact effect_resumeReceived hr hb
  | restart source => exact effect_restartReceived hr hb
  | queryStatus source => exact hmoves (moves_queryStatusReceived _ source)
  | queryCensus source => exact hmoves (moves_queryCensusReceived _ source)
  | jam source f => exact hmoves (moves_jamReceived _ source f)
  | untakenFrame source type payload => exact hmoves (moves_count _ (c := .refused) (by decide))
  | _ => exact hmoves (.refl _)

theorem moves_letBy (s : State) : Moves s s.letBy :=
  (Move.link _ (.hears s.link.assembler s.link.collecting 0 0 (.inl rfl) (.inl ⟨rfl, rfl⟩))).single

theorem moves_beginFrame (s : State) (value : Byte) : Moves s (s.beginFrame value) := by
  unfold State.beginFrame State.updLink
  split
  · exact (Move.link _ (.hears .taking [value] 0 0 (.inl rfl)
      (.inr (.inr (.inr ⟨rfl, List.cons_ne_nil _ _, rfl⟩))))).single
  · exact (Move.link _ (.hears .passing [] 0 0 (.inl rfl) (.inr (.inr (.inl ⟨by decide, rfl⟩))))).single

theorem moves_abandonFrame (s : State) (fault : ReceiveFault) : Moves s (s.abandonFrame fault) := by
  have hcount : Moves s (s.count .receiveError) := moves_count s (by decide)
  unfold State.abandonFrame
  cases fault with
  | marked value => exact hcount.trans (moves_beginFrame _ value)
  | idleGap =>
    exact hcount.trans (Move.link (s := s.count .receiveError) _ (.hears .waiting [] s.link.idleCount s.link.charClock
      (.inr rfl) (.inr (.inr (.inl ⟨by decide, rfl⟩))))).single
  | _ => exact hcount.trans (moves_received _)

theorem effect_onFrame {i : Instr} {s t : State} (h : onFrame i s = .next t) : Effect i s t := by
  rcases onFrame_cases h with rfl | ⟨hr, -, rfl⟩ | ⟨hr, -, rfl | ⟨fault, rfl⟩⟩
  · exact .stays _ t
  · exact .moves hr (moves_letBy s)
  · exact effect_handToOwner hr (.inl rfl)
  · exact .moves hr (moves_abandonFrame s fault)

/-- One character that arrives by itself (log 4). -/
theorem effect_receive {c : Instr} {s : State} (hr : s.inReset = false) (ch : Character)
    (hc : ch.mark = false → ch.stop = true → c = .frameAbandon (some ch)) : Effect c s (s.receive ch) := by
  by_cases htaking : s.link.assembler = .taking
  · rcases receive_of_taking htaking ch with ⟨hd, h⟩ | ⟨i, hmark, hstop, hd, h⟩ | ⟨fault, h⟩ <;> rw [h]
    · refine .moves hr (Move.link _ (.hears s.link.assembler (s.link.collecting ++ [ch.data]) 0 0 (.inl rfl)
        (.inr (.inr (.inr ⟨htaking, by simp, hd⟩))))).single
    · refine effect_handToOwner hr (.inr ⟨ch.data, ?_, htaking, hd⟩)
      obtain ⟨data, mark, stop⟩ := ch
      simp only at hmark hstop
      subst hmark hstop
      exact hc rfl rfl
    · exact .moves hr (moves_abandonFrame s fault)
  · rw [receive_of_not_taking htaking]
    split
    · exact .moves hr (moves_beginFrame s _)
    · exact .moves hr (moves_letBy s)

/-! ## The Link Controller -/

theorem effect_markedCharacter {s t : State} {value : Byte} (h : execMarkedCharacter value s = .next t) :
    Effect (.markedCharacter value) s t := by
  unfold execMarkedCharacter at h
  exact effect_whileRunning (fun hr => effect_receive hr (marked value) fun hmark => by cases hmark) h

theorem effect_frameAbandon {s t : State} {ch : Option Character} (h : execFrameAbandon ch s = .next t) :
    Effect (.frameAbandon ch) s t := by
  unfold execFrameAbandon at h
  refine effect_whileRunning (fun hr => ?_) h
  cases ch with
  | none =>
    simp only
    split
    · exact .moves hr (moves_abandonFrame s _)
    · exact .stays _ s
  | some c => exact effect_receive hr c fun _ _ => rfl

theorem effect_assemblerIdle {s t : State} {idle : Nat} (h : execAssemblerIdle idle s = .next t) :
    Effect (.assemblerIdle idle) s t := by
  unfold execAssemblerIdle at h
  refine effect_whileRunning (fun hr => ?_) h
  split
  next hp =>
    exact .moves hr (Move.link _ (.hears .waiting s.link.collecting s.link.idleCount s.link.charClock (.inr rfl)
      (.inr (.inl ⟨by decide, by simp [hp.1], rfl⟩)))).single
  next => exact .stays _ s

theorem offered_head {l : Link} {c : QueueClass} {e : Entry} (h : l.offered = some (c, e)) :
    (l.queue c).head? = some e := by
  unfold Link.offered at h
  split at h
  · cases h
    simp_all [Link.queue]
  · split at h
    · cases h
      simp_all [Link.queue]
    · split at h
      · cases h
        simp_all [Link.queue]
      · cases h

/-- The frame that begins is the offered one, of a station with a number and no attempt in progress, its gap reached at
the end of a character time (R150). -/
theorem beginsNow_some {s : State} {n : Nat} {c : QueueClass} {e : Entry} (h : s.beginsNow = some (n, c, e)) :
    s.stationNumber = some n ∧ s.link.attempt = none ∧ s.link.offered = some (c, e)
      ∧ frameGap n c e ≤ s.link.idleCount ∧ s.link.charClock = 0 := by
  unfold State.beginsNow at h
  split at h
  next hn ha ho =>
    split_ifs at h with hgap
    cases h
    exact ⟨hn, ha, ho, hgap⟩
  next => cases h

theorem effect_transmitStart {s t : State} {idle : Nat} (h : execTransmitStart idle s = .next t) :
    Effect (.transmitStart idle) s t := by
  unfold execTransmitStart at h
  refine effect_whileRunning (fun hr => ?_) h
  cases hb : s.beginsNow with
  | none => exact .stays _ s
  | some x =>
    obtain ⟨n, c, e⟩ := x
    obtain ⟨-, -, ho, -⟩ := beginsNow_some hb
    simp only
    split
    · exact .moves hr (Move.link _ (.begins c e _ (offered_head ho))).single
    · exact .stays _ s

theorem moves_endAttempt (s : State) : Moves s s.endAttempt :=
  (Move.link _ .ends).single

theorem effect_transmitComplete {s t : State} (h : execTransmitComplete s = .next t) :
    Effect .transmitComplete s t := by
  unfold execTransmitComplete at h
  refine effect_whileRunning (fun hr => ?_) h
  cases s.link.attempt with
  | none => exact .stays _ s
  | some a => exact .moves hr ((moves_endAttempt s).trans (Move.link _ (.drops a.cls rfl)).single)

theorem moves_dropHead {s : State} (h : s.link.attempt = none) (c : QueueClass) : Moves s (s.dropHead c) :=
  (Move.link _ (.drops c h)).single

theorem moves_discardHead {s : State} (h : s.link.attempt = none) (c : QueueClass) : Moves s (s.discardHead c) := by
  have hdiscarded : Moves s ((s.dropHead c).count .transmitDiscard) :=
    (moves_dropHead h c).trans (moves_count _ (by decide))
  unfold State.discardHead
  simp only
  split
  · exact hdiscarded.trans (moves_raiseJams _ _)
  · exact hdiscarded

theorem moves_retryHead {s : State} (h : s.link.attempt = none) {c : QueueClass} {e : Entry}
    (he : (s.link.queue c).head? = some e) (hretry : ¬lastRetry ≤ e.retry) : Moves s (s.retryHead c) := by
  refine (Move.link _ (.retries c h fun x hx => ?_)).single
  rw [he] at hx
  cases hx
  exact Nat.lt_of_not_le hretry

theorem effect_collision {s t : State} (h : execCollision s = .next t) : Effect .collision s t := by
  unfold execCollision at h
  refine effect_whileRunning (fun hr => ?_) h
  cases s.link.attempt with
  | none => exact .stays _ s
  | some a =>
    have hstopped : Moves s (s.endAttempt.count .transmitRetry) :=
      (moves_endAttempt s).trans (moves_count _ (by decide))
    have hqueue : (s.endAttempt.count .transmitRetry).link.queue a.cls = s.link.queue a.cls := by
      cases a.cls <;> rfl
    simp only
    cases he : (s.link.queue a.cls).head? with
    | none => exact .moves hr hstopped
    | some e =>
      simp only
      split
      · exact .moves hr (hstopped.trans (moves_discardHead rfl _))
      next hretry => exact .moves hr (hstopped.trans (moves_retryHead rfl (by rw [hqueue, he]) hretry))

/-! ## Every command -/

theorem effect_resetRelease {s t : State} {straps : BitVec 4} {sns : Vector Level 4} {cvr : CoverLevel}
    (h : exec (.resetRelease straps sns cvr) s = .next t) : Effect (.resetRelease straps sns cvr) s t := by
  have ht : (if s.inReset then s.releaseReset straps sns cvr else s) = t := by injection h
  subst ht
  split
  next hreset => exact .releases straps sns cvr rfl hreset (moves_requestHello _ true)
  next => exact .stays _ s

/-- What a command can do. -/
theorem effect_of_exec {c : Instr} {s t : State} (h : exec c s = .next t) : Effect c s t := by
  cases c with
  | hardwareReset =>
    have ht : resetState s = t := by injection h
    exact ht ▸ .resets rfl
  | resetRelease straps sns cvr => exact effect_resetRelease h
  | sensorInputChange k l => exact effect_sensorInputChange h
  | filterConfirm k => exact effect_filterConfirm h
  | rawEdge k l => exact effect_rawEdge h
  | coverInputChange l => exact effect_coverInputChange h
  | coverConfirm => exact effect_coverConfirm h
  | haltLineChange others => exact effect_haltLineChange h
  | leadExpiry id => exact effect_leadExpiry h
  | trailExpiry id => exact effect_trailExpiry h
  | takeExpiry id => exact effect_takeExpiry h
  | decideTimerExpiry => exact effect_decideTimerExpiry h
  | stopSettleExpiry => exact effect_stopSettleExpiry h
  | coverSettleExpiry => exact effect_coverSettleExpiry h
  | frameAbandon ch => exact effect_frameAbandon h
  | assemblerIdle idle => exact effect_assemblerIdle h
  | transmitStart idle => exact effect_transmitStart h
  | collision => exact effect_collision h
  | transmitComplete => exact effect_transmitComplete h
  | markedCharacter value => exact effect_markedCharacter h
  | _ => exact effect_onFrame h

end Sys2Proof.Laws
end

section
/-! PROOFS. The induction that every invariant of the station is proved by: what the moves and the few larger events
keep, every step keeps. Then the Link Controller (9.1 to 9.4). -/

namespace Sys2Proof.Laws

open Sys2Proof Sys2Proof.Machine Sys2Proof.Safety

/-! ## Steps -/

/-- A property that every event of the station keeps. -/
structure Kept (P : State → Prop) : Prop where
  queue : ∀ {s : State} (n : Nat) (l : List Instr), P s → P { s with eventsDrawn := n, pending := l }
  time : ∀ {s : State}, s.inReset = false → P s → P s.passTime
  move : ∀ {s t : State}, s.inReset = false → Move s t → P s → P t
  waits : ∀ {s : State} (others : Bool), P s → P { s with path := { s.path with othersHold := others } }
  resets : ∀ s : State, P (resetState s)
  releases : ∀ {s : State} (straps : BitVec 4) (sns : Vector Level 4) (cvr : CoverLevel), s.inReset = true → P s →
    P (released s straps sns cvr)
  restarts : ∀ {s : State}, s.inReset = false → P s → P s.restartBlocks
  setsUp : ∀ {s : State} (f : SetupFrame) (own : Nat), s.inReset = false → s.stationNumber = some own →
    s.path.state = .unconfigured → setupFaulty own f = false → P s → P ((stored s f).toState .linking)
  resumes : ∀ {s : State} (epoch : Byte), s.inReset = false → s.path.state = .standby → P s → P (s.acceptResume epoch)
  greets : ∀ {s : State} (n : Nat) (e : RosterEntry), P s → P (s.setRosterEntry n e)
  covers : ∀ {s : State} (l : CoverLevel), s.inReset = false → P s → P (coverEvent s l)
  delivers : ∀ {s : State} (tag : SheetTag), P s → P (delivering s tag)

section Induction

variable {P : State → Prop}

theorem Kept.moves (hk : Kept P) {s t : State} (h : Moves s t) (hr : s.inReset = false) (hs : P s) : P t := by
  have hkeeps : t.inReset = false ∧ P t :=
    h.keeps (P := fun u => u.inReset = false ∧ P u)
      (fun hm hu => ⟨hm.inReset.trans hu.1, hk.move hu.1 hm hu.2⟩) ⟨hr, hs⟩
  exact hkeeps.2

theorem Kept.effect (hk : Kept P) {c : Instr} {s t : State} (h : Effect c s t) (hs : P s) : P t := by
  have hreceived : s.inReset = false → P (received s) := fun hr => hk.moves (moves_received s) hr hs
  cases h with
  | moves hr h => exact hk.moves h hr hs
  | waits others _ => exact hk.waits others hs
  | resets _ => exact hk.resets s
  | releases straps sns cvr _ hr h => exact hk.moves h rfl (hk.releases straps sns cvr hr hs)
  | restarts hr _ =>
    exact hk.moves (moves_requestHello _ true) hr (hk.restarts (s := received s) hr (hreceived hr))
  | setsUp hr f own _ hown hst hf h =>
    exact hk.moves h hr (hk.setsUp (s := received s) f own hr hown hst hf (hreceived hr))
  | resumes hr epoch _ hst _ _ => exact hk.resumes (s := received s) epoch hr hst (hreceived hr)
  | greets hr source f _ h => exact hk.moves h hr (hk.greets (s := received s) _ _ (hreceived hr))
  | covers hr l => exact hk.covers l hr hs
  | delivers hr r _ _ h1 h2 =>
    exact hk.moves h2 (h1.inReset.trans hr) (hk.delivers r.tag (hk.moves h1 hr hs))

end Induction

/-- What a step can do: stand still in reset, let time pass, or run a command (log 1). -/
theorem step_cases {s t : State} (h : step s = .next t) :
    t = s ∨ (s.inReset = false ∧ t = s.passTime)
      ∨ ∃ c n l, exec c { s with eventsDrawn := n, pending := l } = .next t := by
  unfold step at h
  cases hp : s.pending with
  | cons c rest =>
    rw [hp] at h
    exact .inr (.inr ⟨c, s.eventsDrawn, rest, h⟩)
  | nil =>
    rw [hp] at h
    simp only [idleStep] at h
    split at h
    · exact .inl (by injection h with h; exact h.symm)
    next hr =>
      cases hd : s.dueEvents with
      | nil =>
        rw [hd] at h
        exact .inr (.inl ⟨by simpa using hr, by injection h with h; exact h.symm⟩)
      | cons e rest =>
        rw [hd] at h
        refine .inr (.inr ⟨s.chosenEvent e rest, s.eventsDrawn + 1, s.pending, h⟩)

/-- What every event keeps, every step keeps. -/
theorem Kept.step {P : State → Prop} (hk : Kept P) {s t : State} (hs : P s) (h : Machine.step s = .next t) : P t := by
  rcases step_cases h with rfl | ⟨hr, rfl⟩ | ⟨c, n, l, hc⟩
  · exact hs
  · exact hk.time hr hs
  · exact hk.effect (effect_of_exec hc) (hk.queue n l hs)

/-- A confirmed cover candidate keeps what the moves and the change of the debounced level keep. -/
theorem covers_of_move {P : State → Prop} (hmove : ∀ {s t : State}, s.inReset = false → Move s t → P s → P t)
    (hcover : ∀ {s : State} (l : CoverLevel), P s → P (s.setCover l)) {s : State} (l : CoverLevel)
    (hr : s.inReset = false) (h : P s) : P (coverEvent s l) := by
  have hkeeps : (coverEvent s l).inReset = false ∧ P (coverEvent s l) :=
    (moves_coverEvent s l).keeps (P := fun u => u.inReset = false ∧ P u)
      (fun hm hu => ⟨hm.inReset.trans hu.1, hmove hu.1 hm hu.2⟩) ⟨hr, hcover l h⟩
  exact hkeeps.2

/-! ## The Link Controller -/

theorem queue_setQueue (l : Link) (c c' : QueueClass) (q : List Entry) :
    (l.setQueue c q).queue c' = if c' = c then q else l.queue c' := by
  cases c <;> cases c' <;> rfl

@[simp] theorem setQueue_attempt (l : Link) (c : QueueClass) (q : List Entry) :
    (l.setQueue c q).attempt = l.attempt := by cases c <;> rfl
@[simp] theorem setQueue_txEnable (l : Link) (c : QueueClass) (q : List Entry) :
    (l.setQueue c q).txEnable = l.txEnable := by cases c <;> rfl
@[simp] theorem setQueue_assembler (l : Link) (c : QueueClass) (q : List Entry) :
    (l.setQueue c q).assembler = l.assembler := by cases c <;> rfl
@[simp] theorem setQueue_collecting (l : Link) (c : QueueClass) (q : List Entry) :
    (l.setQueue c q).collecting = l.collecting := by cases c <;> rfl

/-- `LinkInv` as a property of the Link Controller, part by part. -/
structure LinkOk (l : Link) : Prop where
  depth : ∀ c, (l.queue c).length ≤ queueDepth c
  retry : ∀ c, ∀ e ∈ l.queue c, e.retry ≤ 3
  txEnable : l.txEnable = l.attempt.isSome
  head : ∀ a, l.attempt = some a → ∃ e, (l.queue a.cls).head? = some e ∧ e.started = true
  collecting : l.assembler ≠ .taking → l.collecting = []
  taking : l.assembler = .taking → l.collecting ≠ [] ∧ decodeFrame l.collecting = .error .idleGap

theorem linkInv_iff (s : State) : LinkInv s ↔ LinkOk s.link :=
  ⟨fun ⟨h1, h2, h3, h4, h5, h6⟩ => ⟨h1, h2, h3, h4, h5, h6⟩, fun h => ⟨h.1, h.2, h.3, h.4, h.5, h.6⟩⟩

/-- One queue replaced: within its depth and its retry numbers, with the head of an attempt still at its head. -/
theorem LinkOk.setQueue {l : Link} (h : LinkOk l) {c : QueueClass} {q : List Entry} (hdepth : q.length ≤ queueDepth c)
    (hretry : ∀ e ∈ q, e.retry ≤ 3)
    (hhead : l.attempt = none
      ∨ ∀ e, (l.queue c).head? = some e → e.started = true → ∃ e', q.head? = some e' ∧ e'.started = true) :
    LinkOk (l.setQueue c q) where
  depth c' := by
    rw [queue_setQueue]
    split
    next hc => rwa [hc]
    next => exact h.depth c'
  retry c' := by
    rw [queue_setQueue]
    split
    · exact hretry
    · exact h.retry c'
  txEnable := by simpa using h.txEnable
  head a ha := by
    rw [setQueue_attempt] at ha
    obtain ⟨e, he, hstarted⟩ := h.head a ha
    rw [queue_setQueue]
    split
    next hc =>
      rw [hc] at he
      rcases hhead with hnone | hhead
      · rw [hnone] at ha
        cases ha
      · exact hhead e he hstarted
    next => exact ⟨e, he, hstarted⟩
  collecting := by simpa using h.collecting
  taking := by simpa using h.taking

/-- The eviction of the newest frame leaves a head that has begun where it is (R137). -/
theorem eraseNewest_head {p : Entry → Bool} {e : Entry} (he : p e = false) (q : List Entry) :
    (eraseNewest p (e :: q)).head? = some e := by
  unfold eraseNewest
  rw [List.reverse_cons, List.eraseP_append]
  split
  · simp
  · simp [he]

theorem mem_eraseNewest {p : Entry → Bool} {q : List Entry} {e : Entry} (h : e ∈ eraseNewest p q) : e ∈ q := by
  unfold eraseNewest at h
  exact List.mem_reverse.1 (List.mem_of_mem_eraseP (List.mem_reverse.1 h))

theorem mem_modifyHead {f : Entry → Entry} {q : List Entry} {x : Entry} (h : x ∈ q.modifyHead f) :
    (∃ e, q.head? = some e ∧ x = f e) ∨ x ∈ q := by
  cases q with
  | nil => cases h
  | cons e rest =>
    rcases List.mem_cons.1 h with rfl | hx
    · exact .inl ⟨e, rfl, rfl⟩
    · exact .inr (List.mem_cons_of_mem _ hx)

/-- An attempt begins or ends, its frame at the head of its queue with its started mark set. -/
theorem LinkOk.attempt {l : Link} (h : LinkOk l) (a : Option Attempt)
    (hhead : ∀ x, a = some x → ∃ e, (l.queue x.cls).head? = some e ∧ e.started = true) :
    LinkOk { l.seen with attempt := a, txEnable := a.isSome } := by
  have hqueue : ∀ c, ({ l.seen with attempt := a, txEnable := a.isSome } : Link).queue c = l.queue c := by
    intro c
    cases c <;> rfl
  refine ⟨fun c => ?_, fun c => ?_, rfl, fun x hx => ?_, h.collecting, h.taking⟩ <;> rw [hqueue]
  · exact h.depth c
  · exact h.retry c
  · exact hhead x hx

theorem LinkMove.keeps_ok {l l' : Link} (hm : LinkMove l l') (h : LinkOk l) : LinkOk l' := by
  cases hm with
  | joins c dest body hroom =>
    refine h.setQueue (by simpa using hroom) (fun e he => ?_) (.inr fun e he hstarted => ⟨e, ?_, hstarted⟩)
    · rcases List.mem_append.1 he with he | he
      · exact h.retry c e he
      · rw [List.mem_singleton.1 he]
        exact Nat.zero_le 3
    · rw [List.head?_append, he]
      rfl
  | evicts dest body hany =>
    have hlength := eraseNewest_length hany
    refine h.setQueue (c := .report) ?_ (fun e he => ?_) (.inr fun e he hstarted => ⟨e, ?_, hstarted⟩)
    · rw [List.length_append]
      exact hlength.le.trans (h.depth .report)
    · rcases List.mem_append.1 he with he | he
      · exact h.retry .report e (mem_eraseNewest he)
      · rw [List.mem_singleton.1 he]
        exact Nat.zero_le 3
    · obtain ⟨rest, hrest⟩ := List.head?_eq_some_iff.1 he
      have hkept : e.evictable = false := (not_evictable_iff e).2 (.inr hstarted)
      rw [show l.report = e :: rest from hrest, List.head?_append, eraseNewest_head hkept]
      rfl
  | flushes =>
    refine h.setQueue (c := .path) ((List.length_filter_le _ _).trans (h.depth .path))
      (fun e he => h.retry .path e (List.mem_of_mem_filter he)) (.inr fun e he hstarted => ⟨e, ?_, hstarted⟩)
    obtain ⟨rest, hrest⟩ := List.head?_eq_some_iff.1 he
    rw [show l.path = e :: rest from hrest, keptAtFlush, List.filter_cons_of_pos (by simp [hstarted])]
    rfl
  | hears a held idle clock _ hheld =>
    refine ⟨h.depth, h.retry, h.txEnable, h.head, fun ha => ?_, fun ha => ?_⟩
    · rcases hheld with ⟨rfl, rfl⟩ | ⟨-, hl, rfl⟩ | ⟨-, rfl⟩ | ⟨rfl, -, -⟩
      · exact h.collecting ha
      · exact h.collecting hl
      · rfl
      · exact absurd rfl ha
    · rcases hheld with ⟨rfl, rfl⟩ | ⟨hne, -, -⟩ | ⟨hne, -⟩ | ⟨-, hne, hd⟩
      · exact h.taking ha
      · exact absurd ha hne
      · exact absurd ha hne
      · exact ⟨hne, hd⟩
  | begins c e bytes hhead =>
    obtain ⟨rest, hrest⟩ := List.head?_eq_some_iff.1 hhead
    rw [hrest, List.modifyHead_cons]
    have hset : LinkOk (l.setQueue c ({ e with started := true } :: rest)) := by
      refine h.setQueue ?_ (fun x hx => ?_) (.inr fun _ _ _ => ⟨_, rfl, rfl⟩)
      · simpa [hrest] using h.depth c
      · rcases List.mem_cons.1 hx with rfl | hx
        · exact h.retry c e (by simp [hrest])
        · exact h.retry c x (by simp [hrest, hx])
    refine hset.attempt (some { cls := c, bytes := bytes }) fun x hx => ?_
    obtain rfl : { cls := c, bytes := bytes } = x := by injection hx
    exact ⟨{ e with started := true }, by simp [queue_setQueue], rfl⟩
  | ends => exact h.attempt none fun x hx => by cases hx
  | drops c hnone =>
    exact h.setQueue (by rw [List.length_tail]; exact (Nat.sub_le _ _).trans (h.depth c))
      (fun e he => h.retry c e (List.mem_of_mem_tail he)) (.inl hnone)
  | retries c hnone hretry =>
    refine h.setQueue (by simpa using h.depth c) (fun x hx => ?_) (.inl hnone)
    rcases mem_modifyHead hx with ⟨e, he, rfl⟩ | hx
    · exact hretry e he
    · exact h.retry c x hx

theorem linkInv_move {s t : State} (hm : Move s t) (h : LinkInv s) : LinkInv t := by
  rw [linkInv_iff] at h ⊢
  cases hm with
  | link l hl => exact hl.keeps_ok h
  | _ => exact h

theorem linkInv_passTime {s : State} (h : LinkInv s) : LinkInv s.passTime := by
  rw [linkInv_iff] at h ⊢
  have hlink : s.passTime.link = s.link.advance s.periodsLeft := rfl
  rw [hlink]
  unfold Link.advance
  split <;> exact ⟨h.depth, h.retry, h.txEnable, h.head, h.collecting, h.taking⟩

/-- With the queues empty and no attempt the assembler alone matters. -/
theorem linkOk_of_empty {l : Link} (hqueue : ∀ c, l.queue c = []) (hattempt : l.attempt = none)
    (htx : l.txEnable = false) (hcollecting : l.assembler ≠ .taking → l.collecting = [])
    (htaking : l.assembler = .taking → l.collecting ≠ [] ∧ decodeFrame l.collecting = .error .idleGap) : LinkOk l where
  depth c := by simp [hqueue c]
  retry c := by simp [hqueue c]
  txEnable := by rw [hattempt, htx]; rfl
  head a ha := by
    rw [hattempt] at ha
    cases ha
  collecting := hcollecting
  taking := htaking

theorem kept_linkInv : Kept LinkInv where
  queue _ _ h := h
  time _ h := linkInv_passTime h
  move _ hm h := linkInv_move hm h
  waits _ h := h
  resets s :=
    (linkInv_iff (resetState s)).2
      (linkOk_of_empty (fun c => by cases c <;> rfl) rfl rfl (fun _ => rfl) (fun h => by cases h))
  releases _ _ _ _ h := h
  restarts {s} _ h := by
    rw [linkInv_iff] at h ⊢
    exact linkOk_of_empty (fun c => by cases c <;> rfl) rfl rfl h.collecting h.taking
  setsUp _ _ _ _ _ _ h := h
  resumes _ _ _ h := h
  greets _ _ h := h
  covers l hr h := covers_of_move (fun _ hm h => linkInv_move hm h) (fun _ h => h) l hr h
  delivers _ h := h

/-- Settles O11: every move of the Link Controller keeps its queues and its assembler in order. -/
theorem linkKept : Obligations.LinkKept := by
  unfold Obligations.LinkKept
  exact fun s t h hstep => kept_linkInv.step h hstep

end Sys2Proof.Laws
end

section
/-! PROOFS. The Sheet Table (chapter 1): its capacity, ids, order and records are kept by every move of it. -/

namespace Sys2Proof.Laws

open Sys2Proof Sys2Proof.Machine Sys2Proof.Safety

/-! ## Insertion (R9) -/

/-- Where a new INBOUND record comes to stand (R9). -/
theorem insertInbound_split (r : Machine.Record) (table : List Machine.Record) :
    ∃ front back, table = front ++ back ∧ insertInbound r table = front ++ r :: back
      ∧ (∀ x ∈ front, ¬(x.phase = .inbound ∧ before r.expectedEntry x.expectedEntry = true))
      ∧ ∀ x, back.head? = some x → x.phase = .inbound ∧ before r.expectedEntry x.expectedEntry = true := by
  induction table with
  | nil => exact ⟨[], [], rfl, rfl, by simp, by simp⟩
  | cons x xs ih =>
    by_cases hx : x.phase = .inbound ∧ before r.expectedEntry x.expectedEntry = true
    · refine ⟨[], x :: xs, rfl, ?_, by simp, fun y hy => ?_⟩
      · simp [insertInbound, Record.isInbound, hx]
      · obtain rfl : x = y := by simpa using hy
        exact hx
    · obtain ⟨front, back, hsplit, hinsert, hfront, hback⟩ := ih
      refine ⟨x :: front, back, by rw [hsplit]; rfl, ?_, fun y hy => ?_, hback⟩
      · have hif : ¬(x.isInbound && before r.expectedEntry x.expectedEntry) = true := by
          simpa [Record.isInbound] using hx
        rw [insertInbound, if_neg hif, hinsert]
        rfl
      · rcases List.mem_cons.1 hy with rfl | hy
        · exact hx
        · exact hfront y hy

/-- Settles O27: the insertion walks past every record that is not an INBOUND one expected later. -/
theorem insertedInOrder : Obligations.InsertedInOrder :=
  insertInbound_split

/-! ## Records and their order -/

@[simp] theorem isInbound_iff (r : Machine.Record) : r.isInbound = true ↔ r.phase = .inbound := by
  simp [Record.isInbound]

/-- What a change of the deadlines of a record leaves alone. -/
structure SameFace (r t : Machine.Record) : Prop where
  tag : t.tag = r.tag
  phase : t.phase = r.phase
  leadIndex : t.leadIndex = r.leadIndex
  trailIndex : t.trailIndex = r.trailIndex

theorem SameFace.isInbound {r t : Machine.Record} (h : SameFace r t) : t.isInbound = r.isInbound := by
  rw [Record.isInbound, h.phase]
  rfl

theorem SameFace.inOrder {a b a' b' : Machine.Record} (ha : SameFace a a') (hb : SameFace b b') (h : InOrder a b) :
    InOrder a' b' := by
  rw [InOrder, ha.isInbound, hb.isInbound, ha.leadIndex, hb.leadIndex, ha.trailIndex, hb.trailIndex]
  exact h

theorem SameFace.refl (r : Machine.Record) : SameFace r r := ⟨rfl, rfl, rfl, rfl⟩

section Shapes

variable {n : Nat} {r t : Machine.Record}

theorem disarmed_sameFace (r : Machine.Record) : SameFace r r.disarmed := ⟨rfl, rfl, rfl, rfl⟩

theorem atRunout_sameFace (r : Machine.Record) : SameFace r r.atRunout := by
  unfold Record.atRunout
  split <;> exact ⟨rfl, rfl, rfl, rfl⟩

/-- A record whose deadlines are disarmed, wholly or in part, keeps its shape: the windows stay, and an absent take
deadline is allowed in every phase. -/
theorem recordShape_disarm (h : RecordShape n r) (hface : SameFace r t) (hcaptures : t.leadCaptures = r.leadCaptures)
    (hlead : t.leadWindow.isSome = r.leadWindow.isSome) (htrail : t.trailWindow.isSome = r.trailWindow.isSome)
    (htake : t.takeDue = r.takeDue ∨ t.takeDue = none) (htaken : t.taken = r.taken)
    (hout : t.outputBound = r.outputBound) : RecordShape n t := by
  unfold RecordShape at h ⊢
  rw [hface.phase, hface.leadIndex, hface.trailIndex, hcaptures, hlead, htrail, htaken, hout]
  rcases htake with htake | htake <;> rw [htake]
  · exact h
  · refine ⟨h.1, h.2.1, h.2.2.1, h.2.2.2.1, h.2.2.2.2.1, ?_⟩
    have hphase := h.2.2.2.2.2
    cases hp : r.phase <;> simp only [hp] at hphase ⊢ <;> tauto

theorem recordShape_disarmed (h : RecordShape n r) : RecordShape n r.disarmed :=
  recordShape_disarm h (disarmed_sameFace r) rfl
    (by simp [Record.disarmed]) (by simp [Record.disarmed]) (.inr rfl) rfl rfl

theorem recordShape_atRunout (h : RecordShape n r) : RecordShape n r.atRunout := by
  unfold Record.atRunout
  split
  · exact recordShape_disarm h ⟨rfl, rfl, rfl, rfl⟩ rfl (by simp) rfl (.inl rfl) rfl rfl
  · exact h

/-- The expiry of a deadline disarms it and leaves the rest of the record. -/
theorem expiry_sameFace {f : Machine.Record → Machine.Record}
    (hf : f = Record.leadDisarmed ∨ f = Record.trailDisarmed ∨ f = Record.takeDisarmed) (r : Machine.Record) :
    SameFace r (f r) := by
  rcases hf with rfl | rfl | rfl <;> exact ⟨rfl, rfl, rfl, rfl⟩

theorem recordShape_expiry {f : Machine.Record → Machine.Record}
    (hf : f = Record.leadDisarmed ∨ f = Record.trailDisarmed ∨ f = Record.takeDisarmed) (h : RecordShape n r) :
    RecordShape n (f r) := by
  refine recordShape_disarm h (expiry_sameFace hf r) ?_ ?_ ?_ ?_ ?_ ?_ <;> rcases hf with rfl | rfl | rfl <;>
    simp [Record.leadDisarmed, Record.trailDisarmed, Record.takeDisarmed]

/-- A matched LEAD gives a record the fields of its phase (R4 to R7). -/
theorem LeadsTo.shape {arms : Bool} {k : Nat} (h : LeadsTo n arms k r t) (hk : k < n) (hr : RecordShape n r)
    (hlead : r.leadIndex = k) (hphase : k = 0 ↔ r.phase = .inbound) : RecordShape n t := by
  obtain ⟨htrail, -, hcaptures, -, hwindow, hfields⟩ := hr
  obtain ⟨c, hc⟩ := h.leadCaptures
  unfold RecordShape
  rw [h.leadIndex, h.trailIndex, h.leadWindow, h.trailWindow, hwindow, hc, List.length_append, hcaptures, hlead]
  refine ⟨by omega, by omega, rfl, Iff.rfl, by omega, ?_⟩
  rcases h.phase with ⟨hp, hout, htaken, htake⟩ | ⟨hn, hp, hexit⟩
  · rw [hp, hout, htaken, htake]
    by_cases h0 : k = 0
    · rw [hphase.1 h0] at hfields
      simpa [h0] using hfields.2
    · have hne : r.phase ≠ .inbound := mt hphase.2 h0
      rw [if_neg h0]
      cases hrp : r.phase <;> rw [hrp] at hfields
      · exact absurd hrp hne
      · exact ⟨by omega, hfields.2⟩
      · omega
  · rw [hp]
    refine ⟨by omega, ?_⟩
    rcases hexit with hexit | ⟨hob, htaken⟩
    · exact .inl hexit
    · exact .inr ⟨hob, by simp [htaken]⟩

/-- A matched TRAIL gives a record the fields of its phase (R4 to R7). -/
theorem TrailsTo.shape {arms : Bool} {k : Nat} (h : TrailsTo arms k r t) (hr : RecordShape n r)
    (hk : k < r.leadIndex) : RecordShape n t := by
  obtain ⟨-, hlead, hcaptures, hleadWindow, -, hfields⟩ := hr
  unfold RecordShape
  rw [h.leadIndex, h.trailIndex, h.leadCaptures, h.leadWindow, h.trailWindow, h.phase, h.outputBound, h.taken,
    h.takeDue]
  exact ⟨hk, hlead, hcaptures, hleadWindow, Iff.rfl, hfields⟩

/-- A TAKEN confirms a record of a neighbour's exit (R73). -/
theorem recordShape_confirmed {id : SheetId} (h : RecordShape n r) (hr : takenChoice id r = true) :
    RecordShape n { r with taken := some true } := by
  simp only [takenChoice, Bool.and_eq_true, beq_iff_eq] at hr
  obtain ⟨⟨⟨-, hphase⟩, hout⟩, -⟩ := hr
  unfold RecordShape at h ⊢
  obtain ⟨htrail, hlead, hcaptures, hleadWindow, htrailWindow, hfields⟩ := h
  simp only [hphase] at hfields ⊢
  exact ⟨htrail, hlead, hcaptures, hleadWindow, htrailWindow, hfields.1, .inr ⟨hout, rfl⟩⟩

/-- A new record has the fields of the INBOUND phase (R12, R13). -/
theorem newRecord_shape (s : State) (tag : WireTag) (source : Source) (anchor : Tick) (hn : 1 ≤ n) :
    RecordShape n (s.newRecord tag source anchor) := by
  refine ⟨Nat.le_refl 0, Nat.zero_le n, rfl, ?_, ?_, rfl, rfl, rfl, rfl⟩ <;>
    simp [State.newRecord, Nat.lt_of_lt_of_le Nat.zero_lt_one hn]

end Shapes

/-! ## The table as a whole -/

/-- The part of `TableInv` that speaks of the table alone, at a station of `n` sensors. -/
structure TableOk (n : Nat) (l : List Machine.Record) : Prop where
  length : l.length ≤ 8
  ids : l.Pairwise fun a b => a.tag.sheetId ≠ b.tag.sheetId
  order : l.Pairwise InOrder
  shape : ∀ r ∈ l, RecordShape n r

section Tables

variable {n : Nat} {l pre post : List Machine.Record} {r t : Machine.Record}

theorem tableOk_nil (n : Nat) : TableOk n [] := ⟨by simp, .nil, .nil, by simp⟩

theorem TableOk.sublist (h : TableOk n l) {l' : List Machine.Record} (hl : l'.Sublist l) : TableOk n l' :=
  ⟨hl.length_le.trans h.length, h.ids.sublist hl, h.order.sublist hl, fun r hr => h.shape r (hl.subset hr)⟩

theorem TableOk.map (h : TableOk n l) {f : Machine.Record → Machine.Record} (hface : ∀ r, SameFace r (f r))
    (hshape : ∀ r, RecordShape n r → RecordShape n (f r)) : TableOk n (l.map f) where
  length := by simpa using h.length
  ids := List.pairwise_map.2 (h.ids.imp fun {a b} hab => by rwa [(hface a).tag, (hface b).tag])
  order := List.pairwise_map.2 (h.order.imp fun {a b} hab => (hface a).inOrder (hface b) hab)
  shape r hr := by
    obtain ⟨x, hx, rfl⟩ := List.mem_map.1 hr
    exact hshape x (h.shape x hx)

/-- What the order says of the records around one of them. -/
theorem inOrder_around (h : (pre ++ r :: post).Pairwise InOrder) :
    (∀ x ∈ pre, InOrder x r) ∧ (∀ x ∈ post, InOrder r x) ∧ (pre ++ post).Pairwise InOrder := by
  have hsub : (pre ++ post).Sublist (pre ++ r :: post) := (List.Sublist.refl pre).append (List.sublist_cons_self r post)
  obtain ⟨-, hpost, hacross⟩ := List.pairwise_append.1 h
  exact ⟨fun x hx => hacross x hx r (by simp), fun x hx => List.rel_of_pairwise_cons hpost hx, h.sublist hsub⟩

/-- One record stands in the order among others. -/
theorem pairwise_middle (h : (pre ++ post).Pairwise InOrder) (hpre : ∀ x ∈ pre, InOrder x r)
    (hpost : ∀ x ∈ post, InOrder r x) : (pre ++ r :: post).Pairwise InOrder := by
  obtain ⟨h1, h2, h3⟩ := List.pairwise_append.1 h
  refine List.pairwise_append.2 ⟨h1, List.pairwise_cons.2 ⟨hpost, h2⟩, fun x hx y hy => ?_⟩
  rcases List.mem_cons.1 hy with rfl | hy
  · exact hpre x hx
  · exact h3 x hx y hy

/-- One record replaced in its place. -/
theorem TableOk.replace (h : TableOk n (pre ++ r :: post)) (htag : t.tag = r.tag) (hshape : RecordShape n t)
    (hpre : ∀ x ∈ pre, InOrder x t) (hpost : ∀ x ∈ post, InOrder t x) : TableOk n (pre ++ t :: post) where
  length := by simpa using h.length
  ids := by
    have hids : (pre ++ t :: post).map (fun x => x.tag.sheetId) = (pre ++ r :: post).map fun x => x.tag.sheetId := by
      simp [htag]
    have hkept : ((pre ++ r :: post).map fun x => x.tag.sheetId).Pairwise (· ≠ ·) := List.pairwise_map.2 h.ids
    rw [← hids] at hkept
    exact List.pairwise_map.1 hkept
  order := pairwise_middle (inOrder_around h.order).2.2 hpre hpost
  shape x hx := by
    rcases List.mem_append.1 hx with hx | hx
    · exact h.shape x (by simp [hx])
    · rcases List.mem_cons.1 hx with rfl | hx
      · exact hshape
      · exact h.shape x (by simp [hx])

/-- A record replaced by one of the same face. -/
theorem TableOk.replace_sameFace (h : TableOk n (pre ++ r :: post)) (hface : SameFace r t)
    (hshape : RecordShape n t) : TableOk n (pre ++ t :: post) := by
  obtain ⟨hpre, hpost, -⟩ := inOrder_around h.order
  exact h.replace hface.tag hshape (fun x hx => (SameFace.refl x).inOrder hface (hpre x hx))
    (fun x hx => hface.inOrder (SameFace.refl x) (hpost x hx))

/-- A change of one record that keeps its face and its shape. -/
theorem TableOk.updateFirst (h : TableOk n l) {p : Machine.Record → Bool} {f : Machine.Record → Machine.Record}
    (hface : ∀ r, SameFace r (f r)) (hshape : ∀ r, p r = true → RecordShape n r → RecordShape n (f r)) :
    TableOk n (updateFirst p f l) := by
  rcases updateFirst_cases p f l with ⟨heq, -⟩ | ⟨pre, r, post, rfl, -, hr, heq⟩ <;> rw [heq]
  · exact h
  · exact h.replace_sameFace (hface r) (hshape r hr (h.shape r (by simp)))

/-- A record put among others, of a new sheet id. -/
theorem TableOk.insert (h : TableOk n (pre ++ post)) (hlength : (pre ++ post).length < 8)
    (hids : ∀ x ∈ pre ++ post, x.tag.sheetId ≠ r.tag.sheetId) (hshape : RecordShape n r)
    (hpre : ∀ x ∈ pre, InOrder x r) (hpost : ∀ x ∈ post, InOrder r x) : TableOk n (pre ++ r :: post) where
  length := by
    rw [List.length_append] at hlength
    rw [List.length_append, List.length_cons]
    omega
  ids := by
    refine (List.perm_middle.pairwise_iff fun {a b} hab => Ne.symm hab).2 (List.pairwise_cons.2 ⟨fun x hx => ?_, h.ids⟩)
    exact (hids x hx).symm
  order := pairwise_middle h.order hpre hpost
  shape x hx := by
    rcases List.mem_cons.1 (List.perm_middle.mem_iff.1 hx) with rfl | hx
    · exact hshape
    · exact h.shape x hx

theorem recordShape_inbound (h : RecordShape n r) (hin : r.phase = .inbound) : r.leadIndex = 0 ∧ r.trailIndex = 0 := by
  obtain ⟨htrail, -, -, -, -, hfields⟩ := h
  rw [hin] at hfields
  have hlead : r.leadIndex = 0 := hfields.1
  exact ⟨hlead, Nat.le_zero.1 (hlead ▸ htrail)⟩

theorem recordShape_caught (h : RecordShape n r) (hn : 1 ≤ n) (hin : r.phase ≠ .inbound) : 1 ≤ r.leadIndex := by
  obtain ⟨-, -, -, -, -, hfields⟩ := h
  cases hp : r.phase <;> rw [hp] at hfields
  · exact absurd hp hin
  · exact hfields.1
  · exact hfields.1.symm ▸ hn

/-- The records from the first INBOUND one on are INBOUND (R9). -/
theorem inbound_of_first (h : post.Pairwise InOrder) (hfirst : ∀ x, post.head? = some x → x.phase = .inbound) :
    ∀ x ∈ post, x.phase = .inbound := by
  cases post with
  | nil => simp
  | cons y ys =>
    have hy : y.phase = .inbound := hfirst y rfl
    intro x hx
    rcases List.mem_cons.1 hx with rfl | hx
    · exact hy
    · exact (isInbound_iff x).1 ((List.rel_of_pairwise_cons h hx).1 ((isInbound_iff y).2 hy))

/-- A new INBOUND record takes its place (R9). -/
theorem TableOk.insertInbound (h : TableOk n l) (hlength : l.length < 8)
    (hids : ∀ x ∈ l, x.tag.sheetId ≠ r.tag.sheetId) (hshape : RecordShape n r) (hin : r.phase = .inbound) :
    TableOk n (insertInbound r l) := by
  obtain ⟨front, back, rfl, heq, -, hback⟩ := insertInbound_split r l
  obtain ⟨hlead, htrail⟩ := recordShape_inbound hshape hin
  have hbackIn := inbound_of_first (List.pairwise_append.1 h.order).2.1 fun x hx => (hback x hx).1
  rw [heq]
  refine h.insert hlength hids hshape (fun x _ => ?_) fun x hx => ?_
  · exact ⟨fun _ => (isInbound_iff r).2 hin, by omega, by omega⟩
  · obtain ⟨hx0, hx0'⟩ := recordShape_inbound (h.shape x (by simp [hx])) (hbackIn x hx)
    exact ⟨fun _ => (isInbound_iff x).2 (hbackIn x hx), by omega, by omega⟩

/-- The record of a matched entry LEAD comes to the end of the resident part (R9, R45). -/
theorem TableOk.enter {arms : Bool} (h : TableOk n (pre ++ r :: post)) (hn : 0 < n) (hin : r.phase = .inbound)
    (ht : LeadsTo n arms 0 r t) : TableOk n (insertResident t (pre ++ post)) := by
  have hr := h.shape r (by simp)
  obtain ⟨hlead, htrail⟩ := recordShape_inbound hr hin
  have hshape : RecordShape n t := ht.shape hn hr hlead (by simp [hin])
  have hrest : TableOk n (pre ++ post) :=
    h.sublist ((List.Sublist.refl pre).append (List.sublist_cons_self r post))
  have hlength : (pre ++ post).length < 8 := by
    have := h.length
    rw [List.length_append, List.length_cons] at this
    rw [List.length_append]
    omega
  have hids : ∀ x ∈ pre ++ post, x.tag.sheetId ≠ t.tag.sheetId := by
    have hcons := (List.perm_middle.pairwise_iff fun {a b} hab => Ne.symm hab).1 h.ids
    exact fun x hx => ht.tag ▸ (List.rel_of_pairwise_cons hcons hx).symm
  have hout : t.phase ≠ .inbound := by
    rcases ht.phase with ⟨hp, -⟩ | ⟨-, hp, -⟩ <;> simp [hp]
  have htlead := ht.leadIndex
  have httrail := ht.trailIndex
  unfold insertResident
  have hsplit := List.takeWhile_append_dropWhile (p := fun x : Machine.Record => !x.isInbound) (l := pre ++ post)
  rw [← hsplit] at hrest hlength hids
  refine hrest.insert hlength hids hshape (fun x hx => ?_) fun x hx => ?_
  · have hxout : x.phase ≠ .inbound := by simpa [Record.isInbound] using List.mem_takeWhile_imp hx
    have hx1 := recordShape_caught (hrest.shape x (List.mem_append_left _ hx)) hn hxout
    exact ⟨fun hxin => absurd ((isInbound_iff x).1 hxin) hxout, by omega, by omega⟩
  · have hxin := inbound_of_first (List.pairwise_append.1 hrest.order).2.1 (fun y hy => by
      have hnot := List.head?_dropWhile_not (fun x : Machine.Record => !x.isInbound) (pre ++ post)
      rw [hy] at hnot
      simpa using hnot) x hx
    obtain ⟨hx0, hx0'⟩ := recordShape_inbound (hrest.shape x (List.mem_append_right _ hx)) hxin
    exact ⟨fun htin => absurd ((isInbound_iff t).1 htin) hout, by omega, by omega⟩

theorem innerChoice_iff (k : Nat) (r : Machine.Record) :
    innerChoice k r = true ↔ r.phase ≠ .inbound ∧ r.leadIndex = k := by
  simp [innerChoice, Record.isInbound]

theorem trailChoice_iff (k : Nat) (r : Machine.Record) :
    trailChoice k r = true ↔ r.trailIndex = k ∧ k < r.leadIndex := by
  simp [trailChoice]

/-- The record of a matched LEAD at a later sensor keeps its place: those before it are past that sensor (R10, R47). -/
theorem TableOk.advance {arms : Bool} {k : Nat} (h : TableOk n (pre ++ r :: post)) (hk : k < n) (h1 : 1 ≤ k)
    (hpre : ∀ x ∈ pre, innerChoice k x = false) (hr : innerChoice k r = true) (ht : LeadsTo n arms k r t) :
    TableOk n (pre ++ t :: post) := by
  obtain ⟨hout, hlead⟩ := (innerChoice_iff k r).1 hr
  obtain ⟨hbefore, hafter, -⟩ := inOrder_around h.order
  have hshape : RecordShape n t :=
    ht.shape hk (h.shape r (by simp)) hlead ⟨fun h0 => by omega, fun hin => absurd hin hout⟩
  have htlead := ht.leadIndex
  have httrail := ht.trailIndex
  have htout : t.phase ≠ .inbound := by
    rcases ht.phase with ⟨hp, -⟩ | ⟨-, hp, -⟩
    · rw [hp, if_neg (Nat.one_le_iff_ne_zero.1 h1)]
      exact hout
    · simp [hp]
  refine h.replace ht.tag hshape (fun x hx => ?_) fun x hx => ?_
  · obtain ⟨hin, hleads, htrails⟩ := hbefore x hx
    have hxout : ¬x.isInbound = true := fun hxin => hout ((isInbound_iff r).1 (hin hxin))
    have hne : x.leadIndex ≠ k := fun hxk => by
      have hchosen := (innerChoice_iff k x).2 ⟨fun hp => hxout ((isInbound_iff x).2 hp), hxk⟩
      rw [hpre x hx] at hchosen
      cases hchosen
    exact ⟨fun hxin => absurd hxin hxout, by omega, by omega⟩
  · obtain ⟨-, hleads, htrails⟩ := hafter x hx
    exact ⟨fun htin => absurd ((isInbound_iff t).1 htin) htout, by omega, by omega⟩

/-- The record of a matched TRAIL keeps its place: those before it have cleared that sensor (R10, R51). -/
theorem TableOk.trail {arms : Bool} {k : Nat} (h : TableOk n (pre ++ r :: post))
    (hpre : ∀ x ∈ pre, trailChoice k x = false) (hr : trailChoice k r = true) (ht : TrailsTo arms k r t) :
    TableOk n (pre ++ t :: post) := by
  obtain ⟨htrail, hlead⟩ := (trailChoice_iff k r).1 hr
  obtain ⟨hbefore, hafter, -⟩ := inOrder_around h.order
  have htlead := ht.leadIndex
  have httrail := ht.trailIndex
  have hin : t.isInbound = r.isInbound := by rw [Record.isInbound, ht.phase]; rfl
  refine h.replace ht.tag (ht.shape (h.shape r (by simp)) hlead) (fun x hx => ?_) fun x hx => ?_
  · obtain ⟨hxin, hleads, htrails⟩ := hbefore x hx
    have hne : x.trailIndex ≠ k := fun hxk => by
      have hchosen := (trailChoice_iff k x).2 ⟨hxk, by omega⟩
      rw [hpre x hx] at hchosen
      cases hchosen
    exact ⟨fun h => hin ▸ hxin h, by omega, by omega⟩
  · obtain ⟨hxin, hleads, htrails⟩ := hafter x hx
    exact ⟨fun h => hxin (hin ▸ h), by omega, by omega⟩

end Tables

/-- The first record that satisfies a choice, and those before it. -/
theorem find?_split {p : Machine.Record → Bool} {l : List Machine.Record} {r : Machine.Record}
    (h : l.find? p = some r) : ∃ pre post, l = pre ++ r :: post ∧ (∀ x ∈ pre, p x = false) ∧ p r = true := by
  obtain ⟨hr, pre, post, heq, hpre⟩ := List.find?_eq_some_iff_append.1 h
  exact ⟨pre, post, heq, fun x hx => by simpa using hpre x hx, hr⟩

/-- Every move of the table keeps it in order, at a station whose edges come of sensors below n. -/
theorem TableMove.keeps_ok {s : State} {l : List Machine.Record} (hm : TableMove s l)
    (h : TableOk s.prof.n s.tracker.table) (hedges : ∀ k, GivesEdges s k → k < s.prof.n)
    (hn : s.setup.profile ≠ none → 1 ≤ s.prof.n) : TableOk s.prof.n l := by
  cases hm with
  | creates tag source anchor hs hprofile hroom hnew =>
    exact h.insertInbound hroom hnew (newRecord_shape s tag source anchor (hn hprofile)) rfl
  | disarms p f hf => exact h.updateFirst (expiry_sameFace hf) fun r _ hr => recordShape_expiry hf hr
  | enters p r t hk hr hin ht =>
    obtain ⟨pre, post, heq, hpre, hpr⟩ := find?_split hr
    rw [heq] at h ⊢
    rw [eraseP_middle hpre hpr]
    exact h.enter (hedges 0 hk) ((isInbound_iff r).1 hin) ht
  | advances k r t hk h1 hr ht =>
    obtain ⟨pre, post, heq, hpre, hpr⟩ := find?_split hr
    rw [heq] at h ⊢
    rw [updateFirst_middle hpre hpr]
    exact h.advance (hedges k hk) h1 hpre hpr ht
  | trails k r t hr ht =>
    obtain ⟨pre, post, heq, hpre, hpr⟩ := find?_split hr
    rw [heq] at h ⊢
    rw [updateFirst_middle hpre hpr]
    exact h.trail hpre hpr ht
  | confirms id =>
    exact h.updateFirst (fun r => ⟨rfl, rfl, rfl, rfl⟩) fun r hr hshape => recordShape_confirmed hshape hr
  | keeps l hl hne => exact h.sublist hl

/-- A record comes into an empty table by a creation alone. -/
theorem TableMove.of_nil {s : State} {l : List Machine.Record} (hm : TableMove s l) (h : s.tracker.table = []) :
    l = [] ∨ (matchingState s.path.state = true ∧ s.setup.profile ≠ none) := by
  cases hm with
  | creates tag source anchor hs hprofile hroom hnew => exact .inr ⟨hs, hprofile⟩
  | disarms p f hf => left; rw [h]; rfl
  | enters p r t hk hr hin ht => rw [h] at hr; cases hr
  | advances k r t hk h1 hr ht => rw [h] at hr; cases hr
  | trails k r t hr ht => rw [h] at hr; cases hr
  | confirms id => left; rw [h]; rfl
  | keeps l hl hne =>
    left
    rw [h] at hl
    exact List.sublist_nil.1 hl

/-! ## The invariant of the table -/

theorem tableInv_iff (s : State) :
    TableInv s
      ↔ TableOk s.prof.n s.tracker.table ∧ (s.path.state = .unconfigured → s.tracker.table = [])
        ∧ (s.setup.profile = none → s.tracker.table = []) ∧ (∀ p, s.setup.profile = some p → 1 ≤ p.n)
        ∧ ∀ k : Fin 4, s.front.sensors[k].mode ≠ .followed → k.val < s.prof.n :=
  ⟨fun ⟨h1, h2, h3, h4, h⟩ => ⟨⟨h1, h2, h3, h4⟩, h⟩, fun ⟨⟨h1, h2, h3, h4⟩, h⟩ => ⟨h1, h2, h3, h4, h⟩⟩

theorem FrontMove.mode {e e' : FrontEnd} (h : FrontMove e e') (k : Fin 4) :
    e'.sensors[k].mode = e.sensors[k].mode := by
  cases h with
  | sensor j y hy =>
    by_cases hjk : j = k
    · subst hjk
      simpa using hy.mode
    · have hne : (j : Nat) ≠ k := fun heq => hjk (Fin.ext heq)
      simp [hne]
  | cover v hv => rfl

theorem Door.ne_unconfigured {s : State} {st : PathState} {f : Machine.Record → Machine.Record} (h : Door s st f) :
    st ≠ .unconfigured := by
  cases h <;> decide

theorem Door.face {s : State} {st : PathState} {f : Machine.Record → Machine.Record} (h : Door s st f)
    (r : Machine.Record) : SameFace r (f r) := by
  cases h with
  | stops => exact disarmed_sameFace r
  | locks => exact disarmed_sameFace r
  | runsOut => exact atRunout_sameFace r
  | _ => exact .refl r

theorem Door.shape {s : State} {st : PathState} {f : Machine.Record → Machine.Record} (h : Door s st f) {n : Nat}
    (r : Machine.Record) (hr : RecordShape n r) : RecordShape n (f r) := by
  cases h with
  | stops => exact recordShape_disarmed hr
  | locks => exact recordShape_disarmed hr
  | runsOut => exact recordShape_atRunout hr
  | _ => exact hr

theorem tableInv_move {s t : State} (hm : Move s t) (h : TableInv s) : TableInv t := by
  rw [tableInv_iff] at h ⊢
  obtain ⟨htable, hunconf, hprofile, hn, hmodes⟩ := h
  have hfirst : s.setup.profile ≠ none → 1 ≤ s.prof.n := by
    intro hne
    obtain ⟨p, hp⟩ := Option.ne_none_iff_exists'.1 hne
    simpa [State.prof, hp] using hn p hp
  cases hm with
  | front e he => exact ⟨htable, hunconf, hprofile, hn, fun k hk => hmodes k (by rwa [he.mode k] at hk)⟩
  | door st f timer hd =>
    refine ⟨htable.map hd.face fun r hr => hd.shape r hr, fun hs => absurd hs hd.ne_unconfigured, fun hp => ?_, hn,
      hmodes⟩
    simp [hprofile hp]
  | table l hl =>
    refine ⟨hl.keeps_ok htable (fun k ⟨j, hj, hmode⟩ => hj ▸ hmodes j hmode) hfirst, fun hs => ?_, fun hp => ?_, hn,
      hmodes⟩
    · rcases hl.of_nil (hunconf hs) with heq | ⟨hmatching, -⟩
      · exact heq
      · exact absurd hs (ne_unconfigured_of_matching hmatching)
    · rcases hl.of_nil (hprofile hp) with heq | ⟨-, hne⟩
      · exact heq
      · exact absurd hp hne
  | empties hs hne => exact ⟨tableOk_nil _, fun _ => rfl, fun _ => rfl, hn, hmodes⟩
  | _ => exact ⟨htable, hunconf, hprofile, hn, hmodes⟩

/-! ## What an accepted SETUP holds (R164) -/

/-- A SETUP without a structural fault meets none of the eight. -/
theorem setupFaultHolds_of_free {own : Nat} {f : SetupFrame} (h : setupFaulty own f = false) (x : SetupFault) :
    setupFaultHolds own f x = false := by
  have hall : ∀ y ∈ setupFaults, setupFaultHolds own f y = false := by simpa [setupFaulty] using h
  exact hall x (by cases x <;> decide)

theorem sensorCount_of_free {own : Nat} {f : SetupFrame} (h : setupFaulty own f = false) :
    1 ≤ f.n.toNat ∧ f.n.toNat ≤ 4 := by
  simpa [setupFaultHolds] using setupFaultHolds_of_free h .sensorCount

/-- An input that gives edges stands below n (R38). -/
theorem lt_of_inputModeOf {p : Profile} {k : Nat} (h : inputModeOf p k ≠ .followed) : k < p.n := by
  by_contra hk
  exact h (by simp [inputModeOf, hk])

theorem withModes_mode (e : FrontEnd) (p : Profile) (k : Fin 4) :
    (e.withModes p).sensors[k].mode = inputModeOf p k.val := by
  simp [FrontEnd.withModes]

theorem kept_tableInv : Kept TableInv where
  queue _ _ h := h
  time _ h := h
  move _ hm h := tableInv_move hm h
  waits _ h := h
  resets s := by
    rw [tableInv_iff]
    refine ⟨tableOk_nil _, fun _ => rfl, fun _ => rfl, fun p hp => (by cases hp), fun k hk => absurd ?_ hk⟩
    simp [resetState, State.reset, Sensor.blank]
  releases {s} straps sns cvr _ h := by
    rw [tableInv_iff] at h ⊢
    obtain ⟨htable, hunconf, hprofile, hn, -⟩ := h
    refine ⟨htable, hunconf, hprofile, hn, fun k hk => absurd ?_ hk⟩
    simp [released, sampledSensor]
  restarts {s} _ _ := by
    rw [tableInv_iff]
    refine ⟨tableOk_nil _, fun _ => rfl, fun _ => rfl, fun p hp => (by cases hp), fun k hk => absurd ?_ hk⟩
    simp [State.restartBlocks, State.updPath, Sensor.restarted]
  setsUp {s} f own _ _ hs hf h := by
    rw [tableInv_iff] at h ⊢
    obtain ⟨-, hunconf, -, -, -⟩ := h
    have htable : ((stored s f).toState .linking).tracker.table = [] := hunconf hs
    refine ⟨htable ▸ tableOk_nil _, fun _ => htable, fun _ => htable, fun p hp => ?_, fun k hk => ?_⟩
    · obtain rfl : profileOf f = p := by injection hp
      exact (sensorCount_of_free hf).1
    · refine lt_of_inputModeOf (p := profileOf f) ?_
      rwa [← withModes_mode s.front]
  resumes {s} epoch _ _ h := by
    rw [tableInv_iff] at h ⊢
    obtain ⟨htable, -, hprofile, hn, hmodes⟩ := h
    exact ⟨htable, fun hs => (by cases hs), hprofile, hn, hmodes⟩
  greets _ _ h := h
  covers l hr h := covers_of_move (fun _ hm h => tableInv_move hm h) (fun _ h => h) l hr h
  delivers _ h := h

/-- Settles O12: the order of the table is kept because a matched edge advances the first record it can. -/
theorem tableKept : Obligations.TableKept := by
  unfold Obligations.TableKept
  exact fun s t h hstep => kept_tableInv.step h hstep

end Sys2Proof.Laws
end

section
/-! PROOFS. Deadlines are armed only in the states that allow them (R110, R111, R121, R123). -/

namespace Sys2Proof.Laws

open Sys2Proof Sys2Proof.Machine Sys2Proof.Safety

/-- The deadlines of a record are as a state allows them. -/
structure Allowed (st : PathState) (r : Machine.Record) : Prop where
  armed : Armed r → armingState st = true
  entry : st = .runout → r.isInbound = true → windowDue r.leadWindow = none

theorem deadlinesInv_iff (s : State) : DeadlinesInv s ↔ ∀ r ∈ s.tracker.table, Allowed s.path.state r :=
  ⟨fun ⟨h1, h2⟩ r hr => ⟨h1 r hr, fun hs => h2 hs r hr⟩,
    fun h => ⟨fun r hr => (h r hr).armed, fun hs r hr => (h r hr).entry hs⟩⟩

theorem allowed_of_not_armed {st : PathState} {r : Machine.Record} (h : ¬Armed r) : Allowed st r :=
  ⟨fun ha => absurd ha h, fun _ _ => by simpa using fun hlead => h (.inl hlead)⟩

/-! ## Records -/

section Records

variable {st : PathState} {r t : Machine.Record}

@[simp] theorem windowDue_disarmed (w : Option Window) :
    windowDue (w.map fun w => { w with due := none }) = none := by
  cases w <;> rfl

theorem not_armed_disarmed (r : Machine.Record) : ¬Armed r.disarmed := by
  simp [Armed, Record.disarmed]

/-- The expiry of a deadline arms none. -/
theorem allowed_expiry {f : Machine.Record → Machine.Record}
    (hf : f = Record.leadDisarmed ∨ f = Record.trailDisarmed ∨ f = Record.takeDisarmed) (h : Allowed st r) :
    Allowed st (f r) := by
  obtain ⟨harmed, hentry⟩ := h
  rcases hf with rfl | rfl | rfl
  · refine ⟨fun ha => harmed ?_, fun _ _ => windowDue_disarmed _⟩
    simp only [Armed, Record.leadDisarmed, windowDue_disarmed] at ha
    exact .inr (by simpa using ha)
  · refine ⟨fun ha => harmed ?_, hentry⟩
    simp only [Armed, Record.trailDisarmed, windowDue_disarmed] at ha
    simp only [Armed]
    tauto
  · refine ⟨fun ha => harmed ?_, hentry⟩
    simp only [Armed, Record.takeDisarmed] at ha
    simp only [Armed]
    tauto

/-- At RUNOUT entry the entry lead deadlines are disarmed (R121). -/
theorem allowed_atRunout (r : Machine.Record) : Allowed .runout r.atRunout := by
  refine ⟨fun _ => rfl, fun _ hin => ?_⟩
  unfold Record.atRunout at hin ⊢
  split
  · exact windowDue_disarmed _
  next hr => rw [if_neg hr] at hin; exact absurd hin hr

theorem armingState_of_armsEntry {st : PathState} (h : armsEntry st = true) : armingState st = true := by
  cases st <;> simp_all [armsEntry, armingState]

/-- A record that is led is INBOUND no more, and has the deadlines its state arms. -/
theorem LeadsTo.allowed {n k : Nat} (h : LeadsTo n (armingState st) k r t) (hr : Allowed st r)
    (hin : k = 0 ∨ r.phase ≠ .inbound) : Allowed st t := by
  refine ⟨fun ha => (h.armed ha).elim hr.armed id, fun _ htin => ?_⟩
  rw [isInbound_iff] at htin
  rcases h.phase with ⟨hp, -⟩ | ⟨-, hp, -⟩
  · rw [hp] at htin
    by_cases hk : k = 0
    · rw [if_pos hk] at htin
      cases htin
    · rw [if_neg hk] at htin
      exact absurd htin (hin.resolve_left hk)
  · rw [hp] at htin
    cases htin

theorem TrailsTo.allowed {k : Nat} (h : TrailsTo (armingState st) k r t) (hr : Allowed st r) : Allowed st t := by
  refine ⟨fun ha => (h.armed ha).elim hr.armed id, fun hs htin => ?_⟩
  rw [h.leadWindow]
  exact hr.entry hs (by rwa [Record.isInbound, h.phase] at htin)

end Records

/-- A new record is armed in RUN and DECIDE alone (R12, R13). -/
theorem newRecord_allowed (s : State) (tag : WireTag) (source : Source) (anchor : Tick) :
    Allowed s.path.state (s.newRecord tag source anchor) := by
  have hdue : (windowDue (s.newRecord tag source anchor).leadWindow).isSome = armsEntry s.path.state :=
    windowAt_due_isSome _ _ _ _
  refine ⟨fun ha => ?_, fun hs _ => ?_⟩
  · rcases ha with ha | ha | ha
    · exact armingState_of_armsEntry (hdue.symm.trans ha)
    · cases ha
    · cases ha
  · rw [hs] at hdue
    exact Option.isSome_eq_false_iff.1 hdue |> Option.isNone_iff_eq_none.1

/-! ## Moves -/

theorem TableMove.allowed {s : State} {l : List Machine.Record} (hm : TableMove s l)
    (h : ∀ r ∈ s.tracker.table, Allowed s.path.state r) : ∀ r ∈ l, Allowed s.path.state r := by
  have hupdate : ∀ {p : Machine.Record → Bool} {f : Machine.Record → Machine.Record},
      (∀ r ∈ s.tracker.table, p r = true → Allowed s.path.state (f r)) →
      ∀ x ∈ updateFirst p f s.tracker.table, Allowed s.path.state x := by
    intro p f hf x hx
    rcases updateFirst_cases p f s.tracker.table with ⟨heq, -⟩ | ⟨pre, r, post, hsplit, -, hr, heq⟩ <;> rw [heq] at hx
    · exact h x hx
    · rw [hsplit] at h hf
      rcases List.mem_append.1 hx with hx | hx
      · exact h x (by simp [hx])
      · rcases List.mem_cons.1 hx with rfl | hx
        · exact hf r (by simp) hr
        · exact h x (by simp [hx])
  cases hm with
  | creates tag source anchor hs hprofile hroom hnew =>
    intro x hx
    rcases mem_insertInbound.1 hx with rfl | hx
    · exact newRecord_allowed s tag source anchor
    · exact h x hx
  | disarms p f hf => exact hupdate fun r hr _ => allowed_expiry hf (h r hr)
  | enters p r t hk hr hin ht =>
    intro x hx
    rcases mem_insertResident.1 hx with rfl | hx
    · exact ht.allowed (h r (List.mem_of_find?_eq_some hr)) (.inl rfl)
    · exact h x (List.mem_of_mem_eraseP hx)
  | advances k r t hk h1 hr ht =>
    have hout : r.phase ≠ .inbound := ((innerChoice_iff k r).1 (List.find?_some hr)).1
    exact hupdate fun _ _ _ => ht.allowed (h r (List.mem_of_find?_eq_some hr)) (.inr hout)
  | trails k r t hr ht => exact hupdate fun _ _ _ => ht.allowed (h r (List.mem_of_find?_eq_some hr))
  | confirms id => exact hupdate fun r hr _ => ⟨(h r hr).armed, (h r hr).entry⟩
  | keeps l hl hne => exact fun r hr => h r (hl.subset hr)

/-- A change of state leaves each record the deadlines its new state allows. -/
theorem Door.allowed {s : State} {st : PathState} {f : Machine.Record → Machine.Record} (hd : Door s st f)
    {r : Machine.Record} (hr : Allowed s.path.state r) : Allowed st (f r) := by
  have hidle : armingState s.path.state = false → Allowed st r := fun hs =>
    allowed_of_not_armed fun ha => by simpa [hs] using hr.armed ha
  cases hd with
  | stops => exact allowed_of_not_armed (not_armed_disarmed r)
  | locks => exact allowed_of_not_armed (not_armed_disarmed r)
  | runsOut => exact allowed_atRunout r
  | decides => exact ⟨fun _ => rfl, fun hs => by cases hs⟩
  | holds h | verifies h => exact hidle (by rcases h with h | h | h | h <;> rw [h] <;> rfl)
  | clears h => exact hidle (by rcases h with h | h | h | h | h <;> rw [h] <;> rfl)
  | links h => exact hidle (by rcases h with h | ⟨h, -⟩ <;> rw [h] <;> rfl)
  | readies h => exact hidle (by rcases h with ⟨h, -⟩ | ⟨h, -⟩ <;> rw [h] <;> rfl)

theorem deadlinesInv_move {s t : State} (hm : Move s t) (h : DeadlinesInv s) : DeadlinesInv t := by
  rw [deadlinesInv_iff] at h ⊢
  cases hm with
  | door st f timer hd =>
    intro x hx
    obtain ⟨r, hr, rfl⟩ := List.mem_map.1 hx
    exact hd.allowed (h r hr)
  | table l hl => exact hl.allowed h
  | empties hs hne => exact fun r hr => by cases hr
  | _ => exact h

theorem kept_deadlinesInv : Kept DeadlinesInv where
  queue _ _ h := h
  time _ h := h
  move _ hm h := deadlinesInv_move hm h
  waits _ h := h
  resets s := (deadlinesInv_iff (resetState s)).2 fun r hr => by cases hr
  releases _ _ _ _ h := h
  restarts {s} _ _ := (deadlinesInv_iff s.restartBlocks).2 fun r hr => by cases hr
  setsUp {s} f own _ _ hs _ h := by
    rw [deadlinesInv_iff] at h ⊢
    refine fun r hr => allowed_of_not_armed fun ha => ?_
    simpa [hs, armingState] using (h r hr).armed ha
  resumes {s} epoch _ _ h := by
    rw [deadlinesInv_iff] at h ⊢
    exact fun r hr => ⟨fun _ => rfl, fun hs => by cases hs⟩
  greets _ _ h := h
  covers l hr h := covers_of_move (fun _ hm h => deadlinesInv_move hm h) (fun _ h => h) l hr h
  delivers _ h := h

/-- Settles O14: a deadline is armed by a creation or a match in a state that arms, and the doors out of those states
disarm. -/
theorem deadlinesKept : Obligations.DeadlinesKept := by
  unfold Obligations.DeadlinesKept
  exact fun s t h hstep => kept_deadlinesInv.step h hstep

end Sys2Proof.Laws
end

section
/-! PROOFS. The outputs, the timers, the cover, the jam items and the stores are kept by every step (chapters 2, 3, 5
and 6). -/

namespace Sys2Proof.Laws

open Sys2Proof Sys2Proof.Machine Sys2Proof.Safety

/-! ## What the moves leave alone, block by block -/

theorem FrontMove.coverLevel {e e' : FrontEnd} (h : FrontMove e e') : e'.cover.level = e.cover.level := by
  cases h with
  | sensor k y hy => rfl
  | cover v hv => exact hv

theorem Move.coverLevel {s t : State} (h : Move s t) : t.front.cover.level = s.front.cover.level := by
  cases h with
  | front e he => exact he.coverLevel
  | _ => rfl

theorem Moves.coverLevel {s t : State} (h : Moves s t) : t.front.cover.level = s.front.cover.level :=
  h.keeps (P := fun u => u.front.cover.level = s.front.cover.level) (fun hm hu => hm.coverLevel.trans hu) rfl

theorem not_inReset {s : State} {p : Prop} (hr : s.inReset = false) (ht : s.inReset = true) : p :=
  absurd ht (by simp [hr])

/-! ## Outputs (R96, R97, R156) -/

theorem outputsInv_move {s t : State} (hr : s.inReset = false) (hm : Move s t) (h : OutputsInv s) : OutputsInv t := by
  obtain ⟨-, hhold, hdrv⟩ := h
  refine ⟨fun ht => not_inReset hr (hm.inReset.symm.trans ht), ?_⟩
  · have hlevel := hm.coverLevel
    cases hm with
    | door st f timer hd => exact ⟨rfl, rfl⟩
    | front e he => exact ⟨hhold, hlevel ▸ hdrv⟩
    | _ => exact ⟨hhold, hdrv⟩

theorem kept_outputsInv : Kept OutputsInv where
  queue _ _ h := h
  time hr h := ⟨fun ht => not_inReset hr ht, h.2⟩
  move hr hm h := outputsInv_move hr hm h
  waits _ h := h
  resets _ := ⟨fun _ => ⟨rfl, rfl, rfl⟩, rfl, rfl⟩
  releases {s} straps sns cvr hr h := by
    obtain ⟨hreset, hhold, hdrv⟩ := h
    obtain ⟨hs, -, -⟩ := hreset hr
    refine ⟨fun ht => (by cases ht), hhold, ?_⟩
    rw [hs] at hdrv
    have hstate : (released s straps sns cvr).path.state = .unconfigured := hs
    rw [hstate]
    exact hdrv
  restarts hr _ := ⟨fun ht => not_inReset hr ht, rfl, rfl⟩
  setsUp f own hr _ _ _ _ := ⟨fun ht => not_inReset hr ht, rfl, rfl⟩
  resumes epoch hr _ _ := ⟨fun ht => not_inReset hr ht, rfl, rfl⟩
  greets _ _ h := h
  covers {s} l hr h := by
    refine covers_of_move (fun hr hm h => outputsInv_move hr hm h) (fun {u} l hu => ?_) l hr h
    exact ⟨hu.1, hu.2.1, rfl⟩
  delivers _ h := h

/-! ## Timers (R100) -/

theorem timersInv_pathWith (s : State) (st : PathState) (timer : Tick) :
    TimersInv { s with path := pathWith s st timer } := by
  refine ⟨?_, ?_, ?_⟩ <;> simp [pathWith, pathIn]

theorem timersInv_move {s t : State} (hm : Move s t) (h : TimersInv s) : TimersInv t := by
  cases hm with
  | door st f timer hd => exact timersInv_pathWith s st timer
  | _ => exact h

theorem kept_timersInv : Kept TimersInv where
  queue _ _ h := h
  time _ h := h
  move _ hm h := timersInv_move hm h
  waits _ h := h
  resets s := by simp [TimersInv, resetState, State.reset]
  releases _ _ _ _ h := h
  restarts {s} _ _ := timersInv_pathWith s .unconfigured 0
  setsUp {s} f own _ _ _ _ _ := timersInv_pathWith (stored s f) .linking 0
  resumes {s} epoch _ _ _ := timersInv_pathWith s .run 0
  greets _ _ h := h
  covers l hr h := covers_of_move (fun _ hm h => timersInv_move hm h) (fun _ h => h) l hr h
  delivers _ h := h

/-- Settles O7: a change of state sets the outputs and the timers, and nothing else does but the debounced cover
level. -/
theorem controllerKept : Obligations.ControllerKept := by
  unfold Obligations.ControllerKept
  refine ⟨fun s t hstep => ⟨fun h => kept_outputsInv.step h hstep, fun h => kept_timersInv.step h hstep⟩, fun s => ?_⟩
  rw [gatePin, beq_iff_eq]

/-! ## The cover (R117) -/

theorem coverInv_move {s t : State} (hr : s.inReset = false) (hm : Move s t) (h : CoverInv s) : CoverInv t := by
  obtain ⟨-, hclosed, hopened⟩ := h
  refine ⟨fun ht => not_inReset hr (hm.inReset.symm.trans ht), ?_⟩
  · rw [hm.coverLevel]
    cases hm with
    | door st f timer hd =>
      simp only [pathWith, pathIn]
      cases hd with
      | stops | locks | links => exact ⟨fun hs => (by cases hs), fun hs => (by cases hs)⟩
      | runsOut _ hcover | holds _ hcover | verifies _ hcover => exact ⟨fun _ => hcover, fun hs => by cases hs⟩
      | decides hrun => exact ⟨fun _ => hclosed (by rw [hrun]; rfl), fun hs => by cases hs⟩
      | clears _ hcover => exact ⟨fun hs => (by cases hs), fun _ => hcover⟩
      | readies hfrom =>
        refine ⟨fun _ => ?_, fun hs => by cases hs⟩
        rcases hfrom with ⟨-, hcover⟩ | ⟨hverify, -⟩
        · exact hcover
        · exact hclosed (by rw [hverify]; rfl)
    | _ => exact ⟨hclosed, hopened⟩

/-- An opening leads out of the states entered with the cover CLOSED (R117). -/
theorem coverOpens_state {s : State} (h : closedCoverState s.path.state = true) :
    s.coverOpens.path.state = .stopping ∨ s.coverOpens.path.state = .clearing := by
  have hjam : ∀ r : JamReport, s.path.state = .run ∨ s.path.state = .decide →
      (s.raiseJams [r]).path.state = .stopping := by
    intro r hs
    rw [raiseJams_one]
    rcases haltRequest_cases (s.recordOwn r) with ⟨-, heq⟩ | ⟨-, heq⟩ | ⟨hs', -, heq⟩ | ⟨hs', -, heq⟩ | ⟨h1, h2, -, heq⟩
    · rw [heq]; rfl
    · rw [heq]; rfl
    · rw [heq]; rfl
    · rw [recordOwn_path] at hs'
      simp [hs'] at hs
    · rw [recordOwn_path] at h1 h2
      exact absurd hs (not_or.2 ⟨h1, h2⟩)
  unfold State.coverOpens
  cases hs : s.path.state <;> rw [hs] at h <;> simp only
  case run => exact .inl (hjam _ (.inl hs))
  case decide => exact .inl (hjam _ (.inr hs))
  case runout => exact .inl rfl
  case standby => exact .inr rfl
  case held => exact .inr rfl
  case verify => exact .inr rfl
  all_goals cases h

/-- A closing leads from CLEARING to VERIFY, or to HELD with sensors covered (R113, R115). -/
theorem enterVerify_state {s : State} (hcover : s.front.cover.level = .closed) :
    s.enterVerify.path.state = .verify ∨ s.enterVerify.path.state = .held := by
  rcases enterVerify_cases s with ⟨-, heq⟩ | ⟨-, heq⟩ <;> rw [heq]
  · exact .inl rfl
  · unfold State.residueFound
    generalize hu : (((s.toState .verify).count .residue).requestReport jobStation _).toState .held = u
    have hlevel : u.front.cover.level = .closed := by
      rw [← hu]
      simpa using hcover
    have hstate : u.path.state = .held := by
      rw [← hu]
      rfl
    rcases heldCheck_cases u with ⟨hopen, -⟩ | ⟨-, -, -, heq⟩ | ⟨-, -, heq⟩
    · rw [hlevel] at hopen
      cases hopen
    · rw [heq]
      exact .inl rfl
    · rw [heq]
      exact .inr hstate

theorem coverInv_coverEvent {s : State} (l : CoverLevel) (hr : s.inReset = false) (h : CoverInv s) :
    CoverInv (coverEvent s l) := by
  obtain ⟨-, hclosed, hopened⟩ := h
  have hmoves := moves_coverEvent s l
  have hfalse : (coverEvent s l).inReset = true → (coverEvent s l).path.state = .unconfigured :=
    fun ht => not_inReset hr (hmoves.inReset.symm.trans ht)
  have hfits : CoverInv (s.setCover l) → CoverInv (coverEvent s l) := fun hset =>
    (hmoves.keeps (P := fun u => u.inReset = false ∧ CoverInv u)
      (fun hm hu => ⟨hm.inReset.trans hu.1, coverInv_move hu.1 hm hu.2⟩) ⟨hr, hset⟩).2
  have hlevel : (coverEvent s l).front.cover.level = l := hmoves.coverLevel
  have hreset : (s.setCover l).inReset = true → (s.setCover l).path.state = .unconfigured := fun ht =>
    not_inReset hr ht
  cases l with
  | opened =>
    cases hs : closedCoverState s.path.state
    · exact hfits ⟨hreset, fun ht => absurd (hs.symm.trans ht) (by decide), fun _ => rfl⟩
    · have hstate := coverOpens_state (s := s.setCover .opened) hs
      refine ⟨hfalse, fun ht => ?_, fun _ => hlevel⟩
      rcases hstate with hstate | hstate <;> rw [coverEvent, hstate] at ht <;> cases ht
  | closed =>
    by_cases hs : s.path.state = .clearing
    · have hstate : (coverEvent s .closed).path.state = .verify ∨ (coverEvent s .closed).path.state = .held := by
        have heq : coverEvent s .closed = (s.setCover .closed).enterVerify := by
          have hset : (s.setCover .closed).path.state = .clearing := hs
          simp only [coverEvent, State.coverCloses, hset]
        rw [heq]
        exact enterVerify_state rfl
      refine ⟨hfalse, fun _ => hlevel, fun ht => ?_⟩
      rcases hstate with hstate | hstate <;> rw [hstate] at ht <;> cases ht
    · exact hfits ⟨hreset, fun _ => rfl, fun ht => absurd ht hs⟩

theorem kept_coverInv : Kept CoverInv where
  queue _ _ h := h
  time _ h := h
  move hr hm h := coverInv_move hr hm h
  waits _ h := h
  resets _ := ⟨fun _ => rfl, fun h => (by cases h), fun h => by cases h⟩
  releases {s} straps sns cvr hr h := by
    have hs : (released s straps sns cvr).path.state = .unconfigured := h.1 hr
    refine ⟨fun ht => (by cases ht), fun ht => ?_, fun ht => ?_⟩ <;> rw [hs] at ht <;> cases ht
  restarts hr _ :=
    ⟨fun ht => not_inReset hr ht, fun h => (by cases h), fun h => by cases h⟩
  setsUp f own hr _ _ _ _ :=
    ⟨fun ht => not_inReset hr ht, fun h => (by cases h), fun h => by cases h⟩
  resumes {s} epoch hr hs h :=
    ⟨fun ht => not_inReset hr ht, fun _ => h.2.1 (by rw [hs]; rfl), fun h => by cases h⟩
  greets _ _ h := h
  covers l hr h := coverInv_coverEvent l hr h
  delivers _ h := h

/-- Settles O8: every door into a state fits the cover level, and a change of the level leads out of the states it does
not fit. -/
theorem coverKept : Obligations.CoverKept := by
  unfold Obligations.CoverKept
  exact fun s t h hstep => kept_coverInv.step h hstep

/-! ## The jam items (R81, R86) -/

theorem jamInv_move {s t : State} (hm : Move s t) (h : JamInv s) : JamInv t := by
  obtain ⟨hempty, hcount⟩ := h
  cases hm with
  | jam j hcapture hlater => exact ⟨fun hnone => absurd hnone hcapture, hlater.elim id fun heq => heq ▸ hcount⟩
  | _ => exact ⟨hempty, hcount⟩

theorem jamInv_clear {s : State} (h : s.jam = JamMonitor.clear) : JamInv s := by
  unfold JamInv
  rw [h]
  exact ⟨fun _ => ⟨rfl, rfl, rfl, rfl⟩, Nat.zero_le 255⟩

theorem kept_jamInv : Kept JamInv where
  queue _ _ h := h
  time _ h := h
  move _ hm h := jamInv_move hm h
  waits _ h := h
  resets _ := jamInv_clear rfl
  releases _ _ _ _ h := h
  restarts _ _ := jamInv_clear rfl
  setsUp _ _ _ _ _ _ h := h
  resumes _ _ _ _ := jamInv_clear rfl
  greets _ _ h := h
  covers l hr h := covers_of_move (fun _ hm h => jamInv_move hm h) (fun _ h => h) l hr h
  delivers _ h := h

/-- Settles O10: a jam recorded fills the capture, and the items are emptied together. -/
theorem jamItemsKept : Obligations.JamItemsKept := by
  unfold Obligations.JamItemsKept
  exact fun s t h hstep => kept_jamInv.step h hstep

/-! ## The stores (R18, R21, R35, R103, R144) -/

/-- A move of the table short of the table-empty signal empties no table. -/
theorem TableMove.ne_nil {s : State} {l : List Machine.Record} (hm : TableMove s l) (h : s.tracker.table ≠ []) :
    l ≠ [] := by
  have hupdate : ∀ (p : Machine.Record → Bool) (f : Machine.Record → Machine.Record),
      updateFirst p f s.tracker.table ≠ [] := fun p f heq => h (by
    rw [← List.length_eq_zero_iff, ← updateFirst_length p f, heq]
    rfl)
  cases hm with
  | creates tag source anchor hs hprofile hroom hnew => exact List.ne_nil_of_mem (mem_insertInbound.2 (.inl rfl))
  | disarms p f hf => exact hupdate p f
  | enters p r t hk hr hin ht => exact List.ne_nil_of_mem (mem_insertResident.2 (.inl rfl))
  | advances k r t hk h1 hr ht => exact hupdate _ _
  | trails k r t hr ht => exact hupdate _ _
  | confirms id => exact hupdate _ _
  | keeps l hl hne => exact hne.resolve_right h

theorem windowAfterRemoval_pendingSpeed (w : WindowUnit) : (windowAfterRemoval w []).pendingSpeed = none := by
  unfold windowAfterRemoval
  cases h : w.pendingSpeed
  · exact h
  · rfl

theorem speedInv_move {s t : State} (hm : Move s t) (h : SpeedInv s) : SpeedInv t := by
  unfold SpeedInv at h ⊢
  cases hm with
  | door st f timer hd => simpa using h
  | table l hl => exact fun hp => hl.ne_nil (h hp)
  | empties hs hne =>
    intro hp
    rw [windowAfterRemoval_pendingSpeed] at hp
    cases hp
  | speeds v hs hv =>
    simp only
    split
    · exact fun hp => by cases hp
    next hne => exact fun _ => hne
  | _ => exact h

theorem kept_speedInv : Kept SpeedInv where
  queue _ _ h := h
  time {s} _ h := by
    have hpending : s.passTime.window.pendingSpeed = s.window.pendingSpeed := by
      unfold State.passTime State.updLink State.updWindow WindowUnit.advance
      simp only
      split <;> rfl
    intro hp
    rw [hpending] at hp
    exact h hp
  move _ hm h := speedInv_move hm h
  waits _ h := h
  resets _ := fun h => by cases h
  releases _ _ _ _ h := h
  restarts _ _ := fun h => by cases h
  setsUp _ _ _ _ _ _ _ := fun h => by cases h
  resumes _ _ _ h := h
  greets _ _ h := h
  covers l hr h := covers_of_move (fun _ hm h => speedInv_move hm h) (fun _ h => h) l hr h
  delivers _ h := h

theorem emptyInv_move {s t : State} (hm : Move s t) (h : EmptyInv s) : EmptyInv t := by
  unfold EmptyInv at h ⊢
  cases hm with
  | door st f timer hd =>
    intro hst
    simp only [pathWith, pathIn] at hst
    have hempty : s.tracker.table = [] := by
      cases hd with
      | links hfrom => exact hfrom.elim (fun hs => h (.inr (.inr hs))) fun hs => hs.2
      | readies hfrom => exact hfrom.elim (fun hs => h (.inr (.inl hs.1))) fun hs => hs.2
      | _ => simp at hst
    simp [hempty]
  | table l hl =>
    intro hs
    rcases hl.of_nil (h hs) with heq | ⟨hmatching, -⟩
    · exact heq
    · rcases hs with hs | hs | hs <;> rw [show s.path.state = _ from hs] at hmatching <;> cases hmatching
  | empties hs hne => exact fun _ => rfl
  | _ => exact h

theorem kept_emptyInv : Kept EmptyInv where
  queue _ _ h := h
  time _ h := h
  move _ hm h := emptyInv_move hm h
  waits _ h := h
  resets _ := fun _ => rfl
  releases _ _ _ _ h := h
  restarts _ _ := fun _ => rfl
  setsUp _ _ _ _ hs _ h := fun _ => h (.inl hs)
  resumes _ _ _ _ := fun ht => by rcases ht with ht | ht | ht <;> cases ht
  greets _ _ h := h
  covers l hr h := covers_of_move (fun _ hm h => emptyInv_move hm h) (fun _ h => h) l hr h
  delivers _ h := h

/-- An appended tag leaves the run-out list within its capacity and its ids distinct (R18). -/
theorem runOutAppend_ok (t : SheetTag) {l : List SheetTag} (hlength : l.length ≤ 8)
    (hids : l.Pairwise fun a b => a.sheetId ≠ b.sheetId) :
    (runOutAppend t l).length ≤ 8 ∧ (runOutAppend t l).Pairwise fun a b => a.sheetId ≠ b.sheetId := by
  unfold runOutAppend
  simp only
  generalize hkept : l.filter (fun x => x.sheetId != t.sheetId) = kept
  have hsub : kept.Sublist l := hkept ▸ List.filter_sublist
  have hne : ∀ x ∈ kept, x.sheetId ≠ t.sheetId := by
    intro x hx
    rw [← hkept] at hx
    simpa using (List.mem_filter.1 hx).2
  have happend : ∀ m : List SheetTag, m.Sublist kept → m.length ≤ 7 →
      (m ++ [t]).length ≤ 8 ∧ (m ++ [t]).Pairwise fun a b => a.sheetId ≠ b.sheetId := by
    refine fun m hm hl => ⟨by simpa using Nat.lt_succ_of_le hl,
      List.pairwise_append.2 ⟨hids.sublist (hm.trans hsub), by simp, ?_⟩⟩
    intro x hx y hy
    rw [List.mem_singleton.1 hy]
    exact hne x (hm.subset hx)
  have hlen := hsub.length_le
  split
  next hfull => exact happend _ (List.drop_sublist 1 kept) (by rw [List.length_drop]; omega)
  next hroom =>
    rw [tableCapacity] at hroom
    exact happend _ (List.Sublist.refl kept) (by omega)

theorem runOutInv_move {s t : State} (hm : Move s t) (h : RunOutInv s) : RunOutInv t := by
  cases hm with
  | clearsRunOut => exact ⟨Nat.zero_le 8, .nil⟩
  | listsRunOut tag => exact runOutAppend_ok tag h.1 h.2
  | _ => exact h

theorem kept_runOutInv : Kept RunOutInv where
  queue _ _ h := h
  time _ h := h
  move _ hm h := runOutInv_move hm h
  waits _ h := h
  resets _ := ⟨Nat.zero_le 8, .nil⟩
  releases _ _ _ _ h := h
  restarts _ _ := ⟨Nat.zero_le 8, .nil⟩
  setsUp _ _ _ _ _ _ h := h
  resumes _ _ _ h := h
  greets _ _ h := h
  covers l hr h := covers_of_move (fun _ hm h => runOutInv_move hm h) (fun _ h => h) l hr h
  delivers _ h := h

theorem windowAfterRemoval_clock (w : WindowUnit) (l : List Machine.Record) :
    (windowAfterRemoval w l).timeBase = w.timeBase ∧ (windowAfterRemoval w l).crystal = w.crystal := by
  unfold windowAfterRemoval
  split <;> exact ⟨rfl, rfl⟩

theorem LinkMove.charClock {l l' : Link} (h : LinkMove l l') : l'.charClock = 0 ∨ l'.charClock = l.charClock := by
  cases h with
  | joins c dest body hroom => right; cases c <;> rfl
  | hears a held idle clock hclock hheld => exact hclock
  | begins | ends => exact .inl rfl
  | drops c hnone => right; cases c <;> rfl
  | retries c hnone hretry => right; cases c <;> rfl
  | _ => exact .inr rfl

theorem clocksInv_move {s t : State} (hm : Move s t) (h : ClocksInv s) : ClocksInv t := by
  unfold ClocksInv at h ⊢
  cases hm with
  | link l hl =>
    refine ⟨h.1, ?_⟩
    rcases hl.charClock with heq | heq <;> simp only [heq]
    · decide
    · exact h.2
  | empties hs hne => exact ⟨(windowAfterRemoval_clock s.window []).2 ▸ h.1, h.2⟩
  | speeds v hs hv =>
    simp only
    split <;> exact h
  | _ => exact h

/-- Time passes to the end of the tick or of the character time, and each clock that comes to its end begins again. -/
theorem clocksInv_passTime {s : State} (h : ClocksInv s) : ClocksInv s.passTime := by
  have hwindow : s.passTime.window = s.window.advance s.periodsLeft := rfl
  have hlink : s.passTime.link = s.link.advance s.periodsLeft := rfl
  obtain ⟨hcrystal, hchar⟩ := h
  unfold ClocksInv
  rw [hwindow, hlink, WindowUnit.advance, Link.advance, crystalPerTick, crystalPerCharacter]
  constructor <;> split <;> simp only <;> omega

theorem kept_clocksInv : Kept ClocksInv where
  queue _ _ h := h
  time _ h := clocksInv_passTime h
  move _ hm h := clocksInv_move hm h
  waits _ h := h
  resets _ := ⟨Nat.zero_lt_succ _, Nat.zero_lt_succ _⟩
  releases _ _ _ _ h := h
  restarts _ h := h
  setsUp _ _ _ _ _ _ h := h
  resumes _ _ _ h := h
  greets _ _ h := h
  covers l hr h := covers_of_move (fun _ hm h => clocksInv_move hm h) (fun _ h => h) l hr h
  delivers _ h := h

/-- Settles O13, one store at a time. -/
theorem storesKept : Obligations.StoresKept := by
  unfold Obligations.StoresKept
  exact fun s t hstep =>
    ⟨fun h => kept_speedInv.step h hstep, fun h => kept_emptyInv.step h hstep, fun h => kept_runOutInv.step h hstep,
      fun h => kept_clocksInv.step h hstep⟩

/-! ## The sensors (R38, R39) -/

/-- A sensor is in a mode, and has a candidate only where it is FILTERED, of the other level than its stable one. -/
structure SensorOk (mode : InputMode) (x : Sensor) : Prop where
  mode : x.mode = mode
  candidate : ∀ c, x.candidate = some c → x.mode = .filtered ∧ c.level ≠ x.stable

theorem sensorsInv_iff (s : State) :
    SensorsInv s
      ↔ (s.inReset = true → s.setup.profile = none)
        ∧ ∀ k : Fin 4, SensorOk (inputModeOf s.prof k.val) s.front.sensors[k] :=
  ⟨fun ⟨h1, h2⟩ => ⟨h1, fun k => ⟨(h2 k).1, (h2 k).2⟩⟩, fun ⟨h1, h2⟩ => ⟨h1, fun k => ⟨(h2 k).1, (h2 k).2⟩⟩⟩

theorem SensorMove.keeps_ok {x y : Sensor} {mode : InputMode} (hm : SensorMove x y) (h : SensorOk mode x) :
    SensorOk mode y := by
  refine ⟨hm.mode.trans h.mode, fun c hc => ?_⟩
  rw [hm.mode]
  rcases hm.candidate with ⟨hsame, hstable⟩ | hnone | ⟨d, hd, hfiltered, hlevel⟩
  · rw [hsame] at hc
    obtain ⟨hfiltered, hlevel⟩ := h.candidate c hc
    exact ⟨hfiltered, (hstable.resolve_right fun hne => hne hfiltered) ▸ hlevel⟩
  · rw [hnone] at hc
    cases hc
  · rw [hd] at hc
    cases hc
    exact ⟨hfiltered, hlevel⟩

theorem sensorsInv_move {s t : State} (hm : Move s t) (h : SensorsInv s) : SensorsInv t := by
  rw [sensorsInv_iff] at h ⊢
  obtain ⟨hreset, hsensors⟩ := h
  cases hm with
  | front e he =>
    refine ⟨hreset, fun k => ?_⟩
    cases he with
    | sensor j y hy =>
      by_cases hjk : j = k
      · subst hjk
        have hset : (s.front.sensors.set j y)[j] = y := by simp
        change SensorOk _ (s.front.sensors.set j y)[j]
        exact hset.symm ▸ hy.keeps_ok (hsensors j)
      · have hne : (j : Nat) ≠ k := fun heq => hjk (Fin.ext heq)
        have hset : (s.front.sensors.set j y)[k] = s.front.sensors[k] := by simp [hne]
        change SensorOk _ (s.front.sensors.set j y)[k]
        exact hset.symm ▸ hsensors k
    | cover v hv => exact hsensors k
  | _ => exact ⟨hreset, hsensors⟩

theorem inputModeOf_blank (k : Nat) : inputModeOf Profile.blank k = .followed := by
  simp [inputModeOf, Profile.blank]

theorem prof_of_none {s : State} (h : s.setup.profile = none) : s.prof = Profile.blank := by
  rw [State.prof, h]
  rfl

theorem kept_sensorsInv : Kept SensorsInv where
  queue _ _ h := h
  time _ h := h
  move _ hm h := sensorsInv_move hm h
  waits _ h := h
  resets s := by
    rw [sensorsInv_iff]
    refine ⟨fun _ => rfl, fun k => ⟨?_, fun c hc => ?_⟩⟩
    · rw [prof_of_none rfl, inputModeOf_blank]
      simp [resetState, State.reset, Sensor.blank]
    · simp [resetState, State.reset, Sensor.blank] at hc
  releases {s} straps sns cvr hr h := by
    rw [sensorsInv_iff] at h ⊢
    have hprofile : (released s straps sns cvr).setup.profile = none := h.1 hr
    refine ⟨fun _ => hprofile, fun k => ⟨?_, fun c hc => ?_⟩⟩
    · rw [prof_of_none hprofile, inputModeOf_blank]
      simp [released, sampledSensor]
    · simp [released, sampledSensor] at hc
  restarts {s} _ _ := by
    rw [sensorsInv_iff]
    refine ⟨fun _ => rfl, fun k => ⟨?_, fun c hc => ?_⟩⟩
    · rw [prof_of_none rfl, inputModeOf_blank]
      simp [State.restartBlocks, State.updPath, Sensor.restarted]
    · simp [State.restartBlocks, State.updPath, Sensor.restarted] at hc
  setsUp {s} f own hr _ _ _ _ := by
    rw [sensorsInv_iff]
    refine ⟨fun ht => not_inReset hr ht, fun k => ⟨?_, fun c hc => ?_⟩⟩
    · exact withModes_mode s.front (profileOf f) k
    · simp [stored, State.toState, State.updPath, State.updFront, FrontEnd.withModes] at hc
  resumes _ _ _ h := h
  greets _ _ h := h
  covers l hr h := covers_of_move (fun _ hm h => sensorsInv_move hm h) (fun _ h => h) l hr h
  delivers _ h := h

/-- Settles O15: modes change with the profile alone, and a candidate is formed at a FILTERED sensor alone. -/
theorem sensorsKept : Obligations.SensorsKept := by
  unfold Obligations.SensorsKept
  exact fun s t h hstep => kept_sensorsInv.step h hstep

end Sys2Proof.Laws
end

section
/-! PROOFS. The profile and the speeds stay in the ranges SETUP leaves them in (2.6, 10.4). -/

namespace Sys2Proof.Laws

open Sys2Proof Sys2Proof.Machine Sys2Proof.Safety

/-! ## An accepted SETUP (R164, R165) -/

section Accepted

variable {own : Nat} {f : SetupFrame}

theorem rank_of_free (h : setupFaulty own f = false) : 1 ≤ f.rank.toNat ∧ f.rank.toNat ≤ 14 := by
  simpa [setupFaultHolds] using setupFaultHolds_of_free h .rank

/-- The positions are those of sensors 1 to n - 1. -/
theorem setupPositions_length (h : setupFaulty own f = false) : (setupPositions f).length = f.n.toNat - 1 := by
  have hn := sensorCount_of_free h
  simp only [setupPositions, List.length_take, List.length_cons, List.length_nil]
  omega

theorem setupModes_length (h : setupFaulty own f = false) : (setupModes f).length = f.n.toNat := by
  have hn := sensorCount_of_free h
  simp only [setupModes, List.length_take, List.length_cons, List.length_nil]
  omega

/-- Strictly increasing from a first value, place by place. -/
theorem increasingFrom_getD {a : Nat} {l : List Nat} (h : increasingFrom a l = true) {j : Nat} (hj : j < l.length) :
    (a :: l).getD j 0 < (a :: l).getD (j + 1) 0 := by
  induction l generalizing a j with
  | nil => simp at hj
  | cons x xs ih =>
    rw [increasingFrom, Bool.and_eq_true, decide_eq_true_iff] at h
    cases j with
    | zero => exact h.1
    | succ j =>
      rw [List.getD_cons_succ, List.getD_cons_succ (n := j + 1)]
      exact ih h.2 (Nat.lt_of_succ_lt_succ hj)

/-- The sensors of n stand at rising positions up to 20000 dmm (R164). -/
theorem positions_of_free (h : setupFaulty own f = false) {j : Nat} (hj : j + 1 < f.n.toNat) :
    (profileOf f).position j < (profileOf f).position (j + 1) ∧ (profileOf f).position (j + 1) ≤ 20000 := by
  have hfault := setupFaultHolds_of_free h .positions
  simp only [setupFaultHolds, Bool.not_eq_false', Bool.and_eq_true, List.all_eq_true, decide_eq_true_eq] at hfault
  have hlength : j < (setupPositions f).length := by
    rw [setupPositions_length h]
    omega
  refine ⟨increasingFrom_getD hfault.1 hlength, ?_⟩
  simp only [Profile.position, profileOf, List.getD_cons_succ]
  rw [List.getD_eq_getElem _ _ hlength]
  exact hfault.2 _ (List.getElem_mem hlength)

/-- No neighbour is above 14 or the station itself (R164). -/
theorem neighbours_of_free (h : setupFaulty own f = false) :
    ∀ m ∈ [(profileOf f).upA, (profileOf f).upB, (profileOf f).exitA, (profileOf f).exitB], m ≤ 14 ∧ m ≠ own := by
  have hfault := setupFaultHolds_of_free h .neighbour
  have hone : ∀ x : BitVec 4, (x.toNat == 15 || x.toNat == own) = false → x.toNat ≤ 14 ∧ x.toNat ≠ own := by
    intro x hx
    simp only [Bool.or_eq_false_iff, beq_eq_false_iff_ne] at hx
    have := x.isLt
    exact ⟨by omega, hx.2⟩
  simp only [setupFaultHolds, List.any_cons, List.any_nil, Bool.or_false, Bool.or_eq_false_iff (x := _ || _)] at hfault
  obtain ⟨hA, hB, hEA, hEB⟩ := hfault
  intro m hm
  simp only [profileOf, List.mem_cons, List.not_mem_nil, or_false] at hm
  rcases hm with rfl | rfl | rfl | rfl
  · exact hone _ hA
  · exact hone _ hB
  · exact hone _ hEA
  · exact hone _ hEB

end Accepted

/-! ## Profile and speed (R35, R101, R164, R165) -/

theorem Door.source_ne_unconfigured {s : State} {st : PathState} {f : Machine.Record → Machine.Record}
    (h : Door s st f) : s.path.state ≠ .unconfigured := by
  intro hs
  cases h <;> simp_all

theorem profileInv_move {s t : State} (hm : Move s t) (h : ProfileInv s) : ProfileInv t := by
  obtain ⟨hprofile, hcurrent, hspeed, hpending, hranges⟩ := h
  cases hm with
  | door st f timer hd =>
    have hs := hd.source_ne_unconfigured
    have ht := hd.ne_unconfigured
    have hnone : ∀ {p : Prop}, (p ↔ s.path.state = .unconfigured) → (p ↔ st = .unconfigured) :=
      fun hp => ⟨fun hx => absurd (hp.1 hx) hs, fun hx => absurd hx ht⟩
    exact ⟨hnone hprofile, hnone hcurrent, hspeed, hpending, hranges⟩
  | empties hs hne =>
    unfold windowAfterRemoval
    cases hp : s.window.pendingSpeed with
    | none => exact ⟨hprofile, hcurrent, hspeed, hpending, hranges⟩
    | some v =>
      refine ⟨hprofile, ⟨fun hx => (by cases hx), fun hx => absurd hx hs⟩, fun w hw => ?_,
        fun w hw => (by cases hw), hranges⟩
      cases hw
      exact hpending v hp
  | speeds v hs hv =>
    have hnew : ∀ w, some v = some w → 50 ≤ w ∧ w ≤ 1600 := fun w hw => by
      cases hw
      exact hv
    refine ⟨hprofile, ?_⟩
    simp only
    split
    · exact ⟨⟨fun hx => (by cases hx), fun hx => absurd hx hs⟩, hnew, fun w hw => (by cases hw), hranges⟩
    · exact ⟨hcurrent, hspeed, hnew, hranges⟩
  | _ => exact ⟨hprofile, hcurrent, hspeed, hpending, hranges⟩

theorem profileInv_unconfigured {s : State} (hprofile : s.setup.profile = none)
    (hcurrent : s.window.currentSpeed = none) (hpending : s.window.pendingSpeed = none)
    (hs : s.path.state = .unconfigured) : ProfileInv s := by
  simp [ProfileInv, hprofile, hcurrent, hpending, hs]

/-- The numbers of a profile as SETUP leaves them (R164, R165). -/
theorem profileInv_stored {s : State} {own : Nat} {f : SetupFrame} (h : setupFaulty own f = false) :
    ProfileInv ((stored s f).toState .linking) := by
  have hprofile : ((stored s f).toState .linking).setup.profile = some (profileOf f) := rfl
  have hcurrent : ((stored s f).toState .linking).window.currentSpeed = some (profileOf f).speed := rfl
  have hpending : ((stored s f).toState .linking).window.pendingSpeed = none := rfl
  have hs : ((stored s f).toState .linking).path.state = .linking := rfl
  obtain ⟨hn1, hn4⟩ := sensorCount_of_free h
  obtain ⟨hr1, hr14⟩ := rank_of_free h
  unfold ProfileInv
  rw [hprofile, hcurrent, hpending, hs]
  refine ⟨by simp, by simp, fun v hv => ?_, fun v hv => (by cases hv), fun p hp => ?_⟩
  · obtain rfl : (profileOf f).speed = v := by injection hv
    exact clampTo_bounds (by decide) _
  · obtain rfl : profileOf f = p := by injection hp
    have hclamped : ∀ {lo hi : Nat} (v : Nat), lo ≤ hi → lo ≤ clampTo lo hi v ∧ clampTo lo hi v ≤ hi :=
      fun v hle => clampTo_bounds hle v
    exact ⟨hn1, hn4, hr1, hr14, (hclamped _ (by decide)).1, (hclamped _ (by decide)).2,
      (hclamped (lo := 0) _ (by decide)).2, (hclamped (lo := 0) _ (by decide)).2,
      (hclamped (lo := 0) _ (by decide)).2, (hclamped (lo := 0) _ (by decide)).2,
      (hclamped (lo := 0) _ (by decide)).2, (hclamped _ (by decide)).1, (hclamped _ (by decide)).2,
      (hclamped _ (by decide)).1, (hclamped _ (by decide)).2⟩

theorem kept_profileInv : Kept ProfileInv where
  queue _ _ h := h
  time {s} _ h := by
    have hwindow : s.passTime.window = s.window.advance s.periodsLeft := rfl
    unfold ProfileInv at h ⊢
    rw [hwindow, WindowUnit.advance]
    split <;> exact h
  move _ hm h := profileInv_move hm h
  waits _ h := h
  resets _ := profileInv_unconfigured rfl rfl rfl rfl
  releases _ _ _ _ h := h
  restarts _ _ := profileInv_unconfigured rfl rfl rfl rfl
  setsUp _ _ _ _ _ hf _ := profileInv_stored hf
  resumes {s} epoch _ hs h := by
    obtain ⟨hprofile, hcurrent, hrest⟩ := h
    have hnone : ∀ {p : Prop}, (p ↔ s.path.state = .unconfigured) → (p ↔ PathState.run = .unconfigured) :=
      fun hp => by simpa [hs] using hp
    exact ⟨hnone hprofile, hnone hcurrent, hrest⟩
  greets _ _ h := h
  covers l hr h := covers_of_move (fun _ hm h => profileInv_move hm h) (fun _ h => h) l hr h
  delivers _ h := h

/-- A profile as SETUP may leave it, at a station of this number (R164). -/
theorem profileRanges_of_setup {s t : State} (hsetup : t.setup = s.setup) (h : ProfileRanges s)
    (ht : t.inReset = false) : ProfileRanges t := by
  have hnumber : t.stationNumber = s.stationNumber := by
    unfold State.stationNumber State.strapFault
    rw [hsetup]
  unfold ProfileRanges
  rw [hsetup, hnumber]
  exact ⟨fun hx => not_inReset ht hx, h.2⟩

theorem kept_profileRanges : Kept ProfileRanges where
  queue _ _ h := h
  time _ h := h
  move hr hm h := profileRanges_of_setup hm.setup h (hm.inReset.trans hr)
  waits _ h := h
  resets _ := ⟨fun _ => rfl, fun p hp => by cases hp⟩
  releases {s} straps sns cvr hr h := by
    have hnone : (released s straps sns cvr).setup.profile = none := h.1 hr
    exact ⟨fun _ => hnone, fun p hp => by rw [hnone] at hp; cases hp⟩
  restarts _ _ := ⟨fun _ => rfl, fun p hp => by cases hp⟩
  setsUp {s} f own hr hown _ hf _ := by
    refine ⟨fun ht => not_inReset hr ht, fun p hp => ?_⟩
    obtain rfl : profileOf f = p := by injection hp
    have hn := sensorCount_of_free hf
    refine ⟨clampTo_bounds (by decide) _, ⟨?_, ?_⟩, rfl, fun j hj => positions_of_free hf hj,
      ⟨own, hown, neighbours_of_free hf⟩, fun hx => ?_, fun hx => ?_, fun hx => ?_⟩
    · have hlength := setupPositions_length hf
      simp only [profileOf, List.length_cons]
      omega
    · simpa [profileOf] using setupModes_length hf
    · have hfault := setupFaultHolds_of_free hf .exitBWithoutDivert
      have hne : f.exitB ≠ 0 := fun h0 => hx (by simp [profileOf, h0])
      simp only [setupFaultHolds, Bool.and_eq_false_iff, bne_eq_false_iff_eq, Bool.not_eq_false'] at hfault
      simp [profileOf, hfault.resolve_left hne]
    · have hfault := setupFaultHolds_of_free hf .feedWithoutBridgeA
      have hfeed : f.roles.feed = true := hx
      simp only [setupFaultHolds, hfeed, Bool.true_and, beq_eq_false_iff_ne] at hfault
      exact fun h0 => hfault (BitVec.eq_of_toNat_eq h0)
    · have hfault := setupFaultHolds_of_free hf .deliveryWithExitA
      have hdelivery : f.roles.delivery = true := hx
      simp only [setupFaultHolds, hdelivery, Bool.true_and, bne_eq_false_iff_eq] at hfault
      simp [profileOf, hfault]
  resumes epoch hr _ h := profileRanges_of_setup rfl h hr
  greets _ _ h := h
  covers l hr h := by
    refine covers_of_move (fun hr hm h => profileRanges_of_setup hm.setup h (hm.inReset.trans hr)) ?_ l hr h
    exact fun _ h => h
  delivers _ h := h

/-- Settles O9: SETUP alone brings a profile, without a structural fault and clamped, and SPEED is clamped too. -/
theorem profileKept : Obligations.ProfileKept := by
  unfold Obligations.ProfileKept
  exact fun s t hstep => ⟨fun h => kept_profileInv.step h hstep, fun h => kept_profileRanges.step h hstep⟩

end Sys2Proof.Laws
end

section
/-! PROOFS. What the commands leave alone, over all commands. -/

namespace Sys2Proof.Laws

open Sys2Proof Sys2Proof.Machine Sys2Proof.Safety

/-- What no move changes, no run of moves changes. -/
theorem Moves.same {α : Type} {g : State → α} (hg : ∀ {s t : State}, Move s t → g t = g s) {s t : State}
    (h : Moves s t) : g t = g s :=
  h.keeps (P := fun u => g u = g s) (fun hm hu => (hg hm).trans hu) rfl

/-- Settles O3: the acting of a command is a function of the state. -/
theorem everyCommandAnswers : Obligations.EveryCommandAnswers := by
  unfold Obligations.EveryCommandAnswers
  intro c s
  cases c <;> exact ⟨_, rfl⟩

/-! ## The model's own items, the time base and the straps -/

/-- The time base, the tick's crystal periods and RST_N. -/
def clockOf (s : State) : Tick × Nat × Bool :=
  (s.window.timeBase, s.window.crystal, s.inReset)

theorem Move.clock {s t : State} (h : Move s t) : clockOf t = clockOf s := by
  cases h with
  | empties hs hne =>
    simp only [clockOf]
    rw [(windowAfterRemoval_clock s.window []).1, (windowAfterRemoval_clock s.window []).2]
  | speeds v hs hv => simp only [clockOf]; split <;> rfl
  | _ => rfl

/-- A command other than HARDWARE_RESET leaves the clock, but that the release of reset raises RST_N. -/
theorem Effect.clock {c : Instr} {s t : State} (h : Effect c s t) (hc : c ≠ .hardwareReset) :
    t.window.timeBase = s.window.timeBase ∧ t.window.crystal = s.window.crystal
      ∧ (t.inReset = true → s.inReset = true) := by
  have hsame : ∀ {u : State}, clockOf u = clockOf s →
      u.window.timeBase = s.window.timeBase ∧ u.window.crystal = s.window.crystal
        ∧ (u.inReset = true → s.inReset = true) := by
    intro u hu
    simp only [clockOf, Prod.mk.injEq] at hu
    obtain ⟨h1, h2, h3⟩ := hu
    exact ⟨h1, h2, fun h => h3 ▸ h⟩
  have hmoves : ∀ {u v : State}, Moves u v → clockOf u = clockOf s → clockOf v = clockOf s :=
    fun h hu => (h.same Move.clock).trans hu
  cases h with
  | moves hr h => exact hsame (hmoves h rfl)
  | waits others hr => exact hsame rfl
  | resets heq => exact absurd heq hc
  | releases straps sns cvr heq hr h =>
    have hclock := h.same Move.clock
    simp only [clockOf, Prod.mk.injEq] at hclock
    exact ⟨hclock.1, hclock.2.1, fun _ => hr⟩
  | restarts hr hb => exact hsame (hmoves (moves_requestHello _ true) rfl)
  | setsUp hr f own hb hown hs hf h => exact hsame (hmoves h rfl)
  | resumes hr epoch hb hs hline he => exact hsame rfl
  | greets hr source f hb h => exact hsame (hmoves h rfl)
  | covers hr l => exact hsame (hmoves (moves_coverEvent s l) rfl)
  | delivers hr r hmem heq h1 h2 =>
    have hbefore := hmoves h1 rfl
    exact hsame (hmoves h2 hbefore)

/-- The queue of waiting commands and the count of free orders drawn. -/
def modelItems (s : State) : List Instr × Nat :=
  (s.pending, s.eventsDrawn)

theorem Move.modelItems {s t : State} (h : Move s t) : modelItems t = modelItems s := by
  cases h <;> rfl

theorem Effect.modelItems {c : Instr} {s t : State} (h : Effect c s t) : modelItems t = modelItems s := by
  have hmoves : ∀ {u v : State}, Moves u v → Laws.modelItems u = Laws.modelItems s →
      Laws.modelItems v = Laws.modelItems s := fun h hu => (h.same Move.modelItems).trans hu
  cases h with
  | moves hr h => exact hmoves h rfl
  | waits | resets | resumes => rfl
  | releases straps sns cvr heq hr h => exact hmoves h rfl
  | restarts hr hb => exact hmoves (moves_requestHello _ true) rfl
  | setsUp hr f own hb hown hs hf h => exact hmoves h rfl
  | greets hr source f hb h => exact hmoves h rfl
  | covers hr l => exact hmoves (moves_coverEvent s l) rfl
  | delivers hr r hmem heq h1 h2 =>
    have hbefore := hmoves h1 rfl
    exact hmoves h2 hbefore

theorem Effect.straps {c : Instr} {s t : State} (h : Effect c s t) :
    t.setup.straps = s.setup.straps ∨ c = .hardwareReset ∨ ∃ straps sns cvr, c = .resetRelease straps sns cvr := by
  have hmoves : ∀ {u v : State}, Moves u v → u.setup.straps = s.setup.straps → v.setup.straps = s.setup.straps :=
    fun h hu => (congrArg SetupUnit.straps h.setup).trans hu
  cases h with
  | moves hr h => exact .inl (hmoves h rfl)
  | waits | resumes => exact .inl rfl
  | resets heq => exact .inr (.inl heq)
  | releases straps sns cvr heq hr h => exact .inr (.inr ⟨straps, sns, cvr, heq⟩)
  | restarts hr hb => exact .inl (hmoves (moves_requestHello _ true) rfl)
  | setsUp hr f own hb hown hs hf h => exact .inl (hmoves h rfl)
  | greets hr source f hb h => exact .inl (hmoves h rfl)
  | covers hr l => exact .inl (hmoves (moves_coverEvent s l) rfl)
  | delivers hr r hmem heq h1 h2 =>
    have hbefore := hmoves h1 rfl
    exact .inl (hmoves h2 hbefore)

/-- Settles O16: no move touches these items, and of the larger events reset and its release alone do. -/
theorem itemsNoCommandChanges : Obligations.ItemsNoCommandChanges := by
  unfold Obligations.ItemsNoCommandChanges
  intro c s t hexec
  have heffect := effect_of_exec hexec
  have hitems := heffect.modelItems
  simp only [modelItems, Prod.mk.injEq] at hitems
  exact ⟨hitems.1, hitems.2, heffect.clock, heffect.straps⟩

/-! ## Census, profile, roster and epoch -/

theorem Move.census_some {s t : State} (h : Move s t) {x : Census} (hx : s.census = some x) : t.census = some x := by
  cases h with
  | forms c hnone =>
    rw [hnone] at hx
    cases hx
  | _ => exact hx

theorem Moves.census_some {s t : State} (h : Moves s t) {x : Census} (hx : s.census = some x) : t.census = some x :=
  h.keeps (P := fun u => u.census = some x) (fun hm hu => hm.census_some hu) hx

theorem Effect.census {c : Instr} {s t : State} (h : Effect c s t) {x : Census} (hx : s.census = some x) :
    t.census = some x
      ∨ t.census = none
        ∧ (c = .hardwareReset ∨ (∃ src, Brings s c (.restart src)) ∨ ∃ src e, Brings s c (.resume src e)) := by
  cases h with
  | moves hr h => exact .inl (h.census_some hx)
  | waits others hr => exact .inl hx
  | resets heq => exact .inr ⟨rfl, .inl heq⟩
  | releases straps sns cvr heq hr h => exact .inl (h.census_some hx)
  | restarts hr hb => exact .inr ⟨by simp [State.requestHello, State.restartBlocks], .inr (.inl ⟨0, hb⟩)⟩
  | setsUp hr f own hb hown hs hf h => exact .inl (h.census_some hx)
  | resumes hr epoch hb hs hline he => exact .inr ⟨rfl, .inr (.inr ⟨0, epoch, hb⟩)⟩
  | greets hr source f hb h => exact .inl (h.census_some hx)
  | covers hr l => exact .inl ((moves_coverEvent s l).census_some hx)
  | delivers hr r hmem heq h1 h2 => exact .inl (h2.census_some (h1.census_some hx))

theorem Effect.profile {c : Instr} {s t : State} (h : Effect c s t) (hinv : ProfileInv s) {p : Profile}
    (hp : s.setup.profile = some p) :
    t.setup.profile = some p
      ∨ t.setup.profile = none ∧ (c = .hardwareReset ∨ ∃ src, Brings s c (.restart src)) := by
  have hmoves : ∀ {u v : State}, Moves u v → u.setup.profile = some p → v.setup.profile = some p :=
    fun h hu => (congrArg SetupUnit.profile h.setup).trans hu
  cases h with
  | moves hr h => exact .inl (hmoves h hp)
  | waits | resumes => exact .inl hp
  | resets heq => exact .inr ⟨rfl, .inl heq⟩
  | releases straps sns cvr heq hr h => exact .inl (hmoves h hp)
  | restarts hr hb => exact .inr ⟨by simp [State.requestHello, State.restartBlocks], .inr ⟨0, hb⟩⟩
  | setsUp hr f own hb hown hs hf h =>
    rw [hinv.1.2 hs] at hp
    cases hp
  | greets hr source f hb h => exact .inl (hmoves h hp)
  | covers hr l => exact .inl (hmoves (moves_coverEvent s l) hp)
  | delivers hr r hmem heq h1 h2 =>
    have hbefore := hmoves h1 hp
    exact .inl (hmoves h2 hbefore)

theorem Effect.roster {c : Instr} {s t : State} (h : Effect c s t) :
    t.setup.roster = s.setup.roster ∨ c = .hardwareReset ∨ ∃ src f, Brings s c (.hello src f) := by
  have hmoves : ∀ {u v : State}, Moves u v → u.setup.roster = s.setup.roster → v.setup.roster = s.setup.roster :=
    fun h hu => (congrArg SetupUnit.roster h.setup).trans hu
  cases h with
  | moves hr h => exact .inl (hmoves h rfl)
  | waits | resumes => exact .inl rfl
  | resets heq => exact .inr (.inl heq)
  | releases straps sns cvr heq hr h => exact .inl (hmoves h rfl)
  | restarts hr hb => exact .inl (hmoves (moves_requestHello _ true) rfl)
  | setsUp hr f own hb hown hs hf h => exact .inl (hmoves h rfl)
  | greets hr source f hb h => exact .inr (.inr ⟨source, f, hb⟩)
  | covers hr l => exact .inl (hmoves (moves_coverEvent s l) rfl)
  | delivers hr r hmem heq h1 h2 =>
    have hbefore := hmoves h1 rfl
    exact .inl (hmoves h2 hbefore)

theorem Effect.epoch {c : Instr} {s t : State} (h : Effect c s t) :
    t.path.epoch = s.path.epoch
      ∨ t.path.epoch = 0 ∧ (c = .hardwareReset ∨ ∃ src, Brings s c (.restart src))
      ∨ (∃ src f, Brings s c (.setup src f) ∧ t.path.epoch = f.epoch)
      ∨ ∃ src e, Brings s c (.resume src e) ∧ t.path.epoch = e := by
  cases h with
  | moves hr h => exact .inl h.epoch
  | waits others hr => exact .inl rfl
  | resets heq => exact .inr (.inl ⟨rfl, .inl heq⟩)
  | releases straps sns cvr heq hr h => exact .inl h.epoch
  | restarts hr hb => exact .inr (.inl ⟨(moves_requestHello _ true).epoch, .inr ⟨0, hb⟩⟩)
  | setsUp hr f own hb hown hs hf h => exact .inr (.inr (.inl ⟨0, f, hb, h.epoch⟩))
  | resumes hr epoch hb hs hline he => exact .inr (.inr (.inr ⟨0, epoch, hb, rfl⟩))
  | greets hr source f hb h => exact .inl h.epoch
  | covers hr l => exact .inl (moves_coverEvent s l).epoch
  | delivers hr r hmem heq h1 h2 => exact .inl (h2.epoch.trans h1.epoch)

/-- Settles O17, one item at a time. -/
theorem heldItems : Obligations.HeldItems := by
  unfold Obligations.HeldItems
  intro c s t hinv hexec
  have heffect := effect_of_exec hexec
  exact ⟨fun x hx => heffect.census hx, fun p hp => heffect.profile hinv hp, heffect.roster, heffect.epoch⟩

/-! ## The doors of RUN and LOCKOUT -/

theorem Move.of_run {s t : State} (h : Move s t) (ht : t.path.state = .run) : s.path.state = .run := by
  cases h with
  | door st f timer hd => cases hd <;> cases ht
  | _ => exact ht

theorem Moves.of_run {s t : State} (h : Moves s t) (ht : t.path.state = .run) : s.path.state = .run :=
  h.keeps (P := fun u => u.path.state = .run → s.path.state = .run) (fun hm hu ht => hu (hm.of_run ht)) id ht

theorem Move.lockout {s t : State} (h : Move s t) (hs : s.path.state = .lockout) : t.path.state = .lockout := by
  cases h with
  | door st f timer hd => cases hd <;> simp_all
  | _ => exact hs

theorem Moves.lockout {s t : State} (h : Moves s t) (hs : s.path.state = .lockout) : t.path.state = .lockout :=
  h.keeps (P := fun u => u.path.state = .lockout) (fun hm hu => hm.lockout hu) hs

theorem Effect.entersRun {c : Instr} {s t : State} (h : Effect c s t) (hs : s.path.state ≠ .run)
    (ht : t.path.state = .run) :
    s.path.state = .standby ∧ s.path.lineHigh = true ∧ ∃ e, Brings s c (.resume 0 e) ∧ e ≠ s.path.epoch := by
  have hmoves : ∀ {u : State}, Moves u t → u.path.state = .run := fun h => h.of_run ht
  cases h with
  | moves hr h => exact absurd (hmoves h) hs
  | waits others hr => exact absurd ht hs
  | resets heq => cases ht
  | releases straps sns cvr heq hr h => exact absurd (hmoves h) hs
  | restarts hr hb => cases hmoves (moves_requestHello _ true)
  | setsUp hr f own hb hown hst hf h => cases hmoves h
  | resumes hr epoch hb hst hline he => exact ⟨hst, hline, epoch, hb, he⟩
  | greets hr source f hb h => exact absurd (hmoves h) hs
  | covers hr l => exact absurd (hmoves (moves_coverEvent s l)) hs
  | delivers hr r hmem heq h1 h2 => exact absurd (h1.of_run (h2.of_run ht)) hs

theorem Effect.leavesLockout {c : Instr} {s t : State} (h : Effect c s t) (hs : s.path.state = .lockout) :
    t.path.state = .lockout ∨ t.path.state = .unconfigured ∧ (c = .hardwareReset ∨ Brings s c (.restart 0)) := by
  cases h with
  | moves hr h => exact .inl (h.lockout hs)
  | waits others hr => exact .inl hs
  | resets heq => exact .inr ⟨rfl, .inl heq⟩
  | releases straps sns cvr heq hr h => exact .inl (h.lockout hs)
  | restarts hr hb => exact .inr ⟨by simp [State.requestHello, State.restartBlocks, toState_path], .inr hb⟩
  | setsUp hr f own hb hown hst hf h => rw [hs] at hst; cases hst
  | resumes hr epoch hb hst hline he => rw [hs] at hst; cases hst
  | greets hr source f hb h => exact .inl (h.lockout hs)
  | covers hr l => exact .inl ((moves_coverEvent s l).lockout hs)
  | delivers hr r hmem heq h1 h2 => exact .inl (h2.lockout (h1.lockout hs))

/-- Settles O18: no move enters RUN or leaves LOCKOUT. -/
theorem stateDoors : Obligations.StateDoors := by
  unfold Obligations.StateDoors
  intro c s t hexec
  have heffect := effect_of_exec hexec
  exact ⟨fun hs ht => heffect.entersRun hs ht, fun hs => heffect.leavesLockout hs⟩

/-! ## Counters -/

theorem CountersGrow.trans {k l m : Counters} (h : CountersGrow k l) (h' : CountersGrow l m) : CountersGrow k m := by
  unfold CountersGrow at h h' ⊢
  simp only [BitVec.le_def] at h h' ⊢
  omega

theorem Move.countersGrow {s t : State} (h : Move s t) : CountersGrow s.counters t.counters := by
  cases h with
  | counts k hgrow hdelivered => exact hgrow
  | _ => exact CountersGrow.refl _

theorem Moves.countersGrow {s t : State} (h : Moves s t) : CountersGrow s.counters t.counters :=
  h.keeps (P := fun u => CountersGrow s.counters u.counters) (fun hm hu => CountersGrow.trans hu hm.countersGrow)
    (CountersGrow.refl _)

/-- Settles O19: every count is a saturating sum, and HARDWARE_RESET alone clears the counters. -/
theorem countersNeverFall : Obligations.CountersNeverFall := by
  unfold Obligations.CountersNeverFall
  intro c s t hc hexec
  cases effect_of_exec hexec with
  | moves hr h => exact h.countersGrow
  | waits | resumes => exact CountersGrow.refl _
  | resets heq => exact absurd heq hc
  | releases straps sns cvr heq hr h => exact h.countersGrow
  | restarts hr hb => exact (moves_requestHello (received s).restartBlocks true).countersGrow
  | setsUp hr f own hb hown hs hf h =>
    exact CountersGrow.trans (countersGrow_raiseCounter .clamp (setupClamps f) s.counters) h.countersGrow
  | greets hr source f hb h => exact h.countersGrow
  | covers hr l => exact (moves_coverEvent s l).countersGrow
  | delivers hr r hmem heq h1 h2 =>
    have hcounted := CountersGrow.trans h1.countersGrow (countersGrow_raiseCounter .delivered 1 _)
    exact CountersGrow.trans hcounted h2.countersGrow

/-! ## Deliveries (R15, R19) -/

theorem Move.delivered {s t : State} (h : Move s t) : t.counters.delivered = s.counters.delivered := by
  cases h with
  | counts k hgrow hdelivered => exact hdelivered
  | _ => rfl

/-- Settles O20: of all the events a delivery alone keeps a tag, that of a record of the table, and counts it. -/
theorem lastDeliveredHeld : Obligations.LastDeliveredHeld := by
  unfold Obligations.LastDeliveredHeld
  intro c s t hexec
  cases effect_of_exec hexec with
  | moves hr h => exact .inl h.lastDelivered
  | waits | resumes => exact .inl rfl
  | resets heq => exact .inr (.inl ⟨rfl, .inl heq⟩)
  | releases straps sns cvr heq hr h => exact .inl h.lastDelivered
  | restarts hr hb => exact .inr (.inl ⟨(moves_requestHello _ true).lastDelivered, .inr ⟨0, hb⟩⟩)
  | setsUp hr f own hb hown hs hf h => exact .inl h.lastDelivered
  | greets hr source f hb h => exact .inl h.lastDelivered
  | covers hr l => exact .inl (moves_coverEvent s l).lastDelivered
  | @delivers _ u hr r hmem heq h1 h2 =>
    have hcount : t.counters.delivered = raised s.counters.delivered 1 :=
      (h2.same Move.delivered).trans (congrArg (raised · 1) (h1.same Move.delivered))
    exact .inr (.inr ⟨⟨r, hmem, h2.lastDelivered⟩, by rw [hcount, raised_toNat], heq⟩)

end Sys2Proof.Laws
end

section
/-! PROOFS. The step: the front command, or a due event, or the passing of time (logs 1, 2 and 21). -/

namespace Sys2Proof.Laws

open Sys2Proof Sys2Proof.Machine Sys2Proof.Safety

/-- Settles O1: a waiting command is the first branch of the step. -/
theorem stepRunsFront : Obligations.StepRunsFront := by
  unfold Obligations.StepRunsFront
  intro s c rest h
  unfold step
  rw [h]

/-! ## What is due, block by block -/

section Due

variable {s : State} {e : Instr}

theorem expires_iff {d : Option Deadline} : s.expires d = true ↔ ∃ x, d = some x ∧ Expired s x := by
  cases d <;> simp [State.expires, Expired, State.now]

theorem timerExpires_iff {t : Option Tick} :
    s.timerExpires t = true ↔ ∃ d, t = some d ∧ reached s.window.timeBase d = true := by
  cases t <;> simp [State.timerExpires, State.now]

theorem windowDue_eq_some {w : Option Window} {d : Deadline} :
    windowDue w = some d ↔ ∃ x, w = some x ∧ x.due = some d := by
  cases w <;> simp [windowDue]

theorem windowExpires_iff {w : Option Window} :
    s.expires (windowDue w) = true ↔ ∃ x d, w = some x ∧ x.due = some d ∧ Expired s d := by
  simp only [expires_iff, windowDue_eq_some]
  constructor
  · rintro ⟨d, ⟨x, hw, hx⟩, hd⟩
    exact ⟨x, d, hw, hx, hd⟩
  · rintro ⟨x, d, hw, hx, hd⟩
    exact ⟨d, ⟨x, hw, hx⟩, hd⟩

/-- The events due at sensor `k`, its pin at a level: a sample, a confirmation or a raw edge (R38 to R40). -/
theorem mem_sensorDue {k : Fin 4} {x : Sensor} (hx : s.front.sensors[k] = x) :
    e ∈ s.sensorDue k
      ↔ (e = .sensorInputChange k x.pin
            ∧ ((x.mode ≠ .raw ∧ (x.mode = .filtered → x.candidate = none) ∧ x.pin ≠ x.stable)
              ∨ (x.mode = .filtered ∧ x.candidate ≠ none ∧ x.pin = x.stable)))
          ∨ (e = .filterConfirm k
            ∧ x.mode = .filtered ∧ x.pin ≠ x.stable
              ∧ ∃ c, x.candidate = some c
                ∧ reached s.window.timeBase (c.start + BitVec.ofNat 16 (s.prof.filter - 1)) = true)
          ∨ (e = .rawEdge k x.pin ∧ x.mode = .raw ∧ x.pin ≠ x.stable) := by
  simp only [State.sensorDue, State.filterReached, hx, State.now, tickPlus]
  cases x.mode
  case followed => by_cases hp : x.pin = x.stable <;> simp [hp]
  case raw => by_cases hp : x.pin = x.stable <;> simp [hp]
  case filtered =>
    cases x.candidate with
    | none => by_cases hp : x.pin = x.stable <;> simp [hp]
    | some c =>
      by_cases hp : x.pin = x.stable
      · simp [hp]
      · cases hr : reached s.window.timeBase (c.start + BitVec.ofNat 16 (s.prof.filter - 1)) <;> simp [hp, hr]

theorem mem_coverDue :
    e ∈ s.coverDue
      ↔ (e = .coverInputChange s.front.cover.pin
            ∧ ((s.front.cover.candidate = none ∧ s.front.cover.pin ≠ s.front.cover.level)
              ∨ (s.front.cover.candidate ≠ none ∧ s.front.cover.pin = s.front.cover.level)))
          ∨ (e = .coverConfirm
            ∧ s.front.cover.pin ≠ s.front.cover.level
              ∧ ∃ c, s.front.cover.candidate = some c ∧ reached s.window.timeBase (c.start + 49) = true) := by
  simp only [State.coverDue]
  cases hc : s.front.cover.candidate with
  | none => by_cases hp : s.front.cover.pin = s.front.cover.level <;> simp [hp]
  | some c =>
    have hreached : s.coverReached c = reached s.window.timeBase (c.start + 49) := rfl
    by_cases hp : s.front.cover.pin = s.front.cover.level
    · simp [hp]
    · simp [hp, hreached, and_comm]

theorem mem_lineDue :
    e ∈ s.lineDue ↔ e = .haltLineChange s.path.othersHold ∧ s.path.lineHigh = (s.path.hold || s.path.othersHold) := by
  unfold State.lineDue State.lineSample
  cases s.path.hold <;> cases s.path.othersHold <;> cases s.path.lineHigh <;> simp

theorem mem_recordDue (r : Machine.Record) :
    e ∈ s.recordDue r
      ↔ (e = .leadExpiry r.tag.sheetId ∧ ∃ w d, r.leadWindow = some w ∧ w.due = some d ∧ Expired s d)
        ∨ (e = .trailExpiry r.tag.sheetId ∧ ∃ w d, r.trailWindow = some w ∧ w.due = some d ∧ Expired s d)
        ∨ (e = .takeExpiry r.tag.sheetId ∧ ∃ d, r.takeDue = some d ∧ Expired s d) := by
  rw [← windowExpires_iff, ← windowExpires_iff, ← expires_iff]
  simp only [State.recordDue, List.mem_append, List.mem_ite_nil_right, List.mem_singleton, or_assoc, and_comm]

theorem mem_timersDue :
    e ∈ s.timersDue
      ↔ (e = .decideTimerExpiry ∧ Due s .decideTimerExpiry) ∨ (e = .stopSettleExpiry ∧ Due s .stopSettleExpiry)
        ∨ (e = .coverSettleExpiry ∧ Due s .coverSettleExpiry) := by
  simp only [State.timersDue, List.mem_append, List.mem_ite_nil_right, List.mem_singleton, timerExpires_iff, or_assoc,
    Due, and_comm]

theorem offered_iff {l : Link} {cls : QueueClass} {x : Entry} (h : s.link = l) :
    l.offered = some (cls, x) ↔ Offers s cls x := by
  subst h
  unfold Link.offered Offers
  cases hu : s.link.urgent <;> cases hp : s.link.path <;> cases hr : s.link.report <;> cases cls <;>
    simp [Link.queue, hu, hp, hr]

/-- The frame that begins now is the offered one, its gap reached at the end of a character time (R150, R156). -/
theorem beginsNow_iff {own : Nat} {cls : QueueClass} {x : Entry} :
    s.beginsNow = some (own, cls, x)
      ↔ s.stationNumber = some own ∧ s.link.attempt = none ∧ Offers s cls x ∧ frameGap own cls x ≤ s.link.idleCount
        ∧ s.link.charClock = 0 := by
  rw [← offered_iff rfl]
  refine ⟨beginsNow_some, fun ⟨hown, hattempt, hoffered, hgap⟩ => ?_⟩
  unfold State.beginsNow
  rw [hown, hattempt, hoffered]
  exact if_pos hgap

theorem frameGap_eq (own : Nat) (cls : QueueClass) (x : Entry) : frameGap own cls x = gapOf own cls + 16 * x.retry := by
  cases cls <;> rfl

theorem mem_linkDue :
    e ∈ s.linkDue
      ↔ (e = .frameAbandon none ∧ Due s (.frameAbandon none))
        ∨ (e = .assemblerIdle s.link.idleCount ∧ Due s (.assemblerIdle s.link.idleCount))
        ∨ (e = .transmitStart s.link.idleCount ∧ Due s (.transmitStart s.link.idleCount)) := by
  have hlink : s.linkDue
      = (match s.link.assembler with
          | .waiting => []
          | .taking => if s.lineGap then [.frameAbandon none] else []
          | .passing => if s.lineGap then [.assemblerIdle s.link.idleCount] else [])
        ++ if s.beginsNow.isSome then [.transmitStart s.link.idleCount] else [] := by
    unfold State.linkDue
    cases s.beginsNow <;> rfl
  have hbegins : s.beginsNow.isSome = true ↔ ∃ own cls x, s.stationNumber = some own ∧ s.link.attempt = none
      ∧ Offers s cls x ∧ frameGap own cls x ≤ s.link.idleCount ∧ s.link.charClock = 0 := by
    simp only [← beginsNow_iff, Option.isSome_iff_exists, Prod.exists]
  have hgap : s.lineGap = decide (2 < s.link.idleCount) := rfl
  rw [hlink, List.mem_append, List.mem_ite_nil_right, hbegins, hgap, List.mem_singleton]
  simp only [Due, frameGap_eq]
  cases s.link.assembler <;> by_cases hidle : 2 < s.link.idleCount <;> simp [hidle] <;> grind

end Due

/-- The events due are those of `Due`. -/
theorem mem_dueEvents (s : State) (e : Instr) : e ∈ s.dueEvents ↔ Due s e := by
  have hparts : e ∈ s.dueEvents ↔ (∃ k : Fin 4, e ∈ s.sensorDue k) ∨ e ∈ s.coverDue ∨ e ∈ s.lineDue
      ∨ (∃ r ∈ s.tracker.table, e ∈ s.recordDue r) ∨ e ∈ s.timersDue ∨ e ∈ s.linkDue := by
    simp only [State.dueEvents, List.mem_append, List.mem_flatMap, or_assoc, Fin.exists_fin_succ, Fin.exists_fin_zero,
      or_false]
    rfl
  simp only [hparts, mem_sensorDue rfl, mem_coverDue, mem_lineDue, mem_recordDue, mem_timersDue, mem_linkDue]
  cases e <;> simp [Due] <;> grind

/-- Time passes to the end of the tick or of the character time, whichever comes first (R21, R144). -/
theorem passTime_eq (s : State) :
    s.passTime
      = { s with
          window :=
            if 400 ≤ s.window.crystal + min (400 - s.window.crystal) (44 - s.link.charClock) then
              { s.window with timeBase := s.window.timeBase + 1, crystal := 0 }
            else
              { s.window with
                crystal := s.window.crystal + min (400 - s.window.crystal) (44 - s.link.charClock) }
          link :=
            if 44 ≤ s.link.charClock + min (400 - s.window.crystal) (44 - s.link.charClock) then
              { s.link with
                charClock := 0
                idleCount := if s.link.attempt = none then s.link.idleCount + 1 else s.link.idleCount }
            else
              { s.link with
                charClock := s.link.charClock + min (400 - s.window.crystal) (44 - s.link.charClock) } } := by
  have hidle : (if s.link.attempt.isSome then s.link.idleCount else s.link.idleCount + 1)
      = if s.link.attempt = none then s.link.idleCount + 1 else s.link.idleCount := by
    cases s.link.attempt <;> simp
  rw [← hidle]
  rfl

/-- The event taken is one of those due. -/
theorem chosenEvent_mem (s : State) (e : Instr) (rest : List Instr) : s.chosenEvent e rest ∈ e :: rest := by
  unfold State.chosenEvent
  cases rest with
  | nil => simp
  | cons x xs =>
    have hlt : Config.eventOrder s.eventsDrawn % ((x :: xs).length + 1) < (e :: x :: xs).length :=
      Nat.mod_lt _ (Nat.succ_pos _)
    simp only
    rw [List.getD_eq_getElem _ _ hlt]
    exact List.getElem_mem hlt

/-- Settles O2: the due events are those of `Due`, and the step takes one of them or lets time pass. -/
theorem idleStep : Obligations.IdleStep := by
  unfold Obligations.IdleStep
  intro s
  refine ⟨mem_dueEvents s, fun hp hr => ?_, fun hp hr hdue => ?_, fun hp hr hdue => ?_⟩
  · simp [step, hp, Machine.idleStep, hr]
  · obtain ⟨e, rest, hcons⟩ := List.exists_cons_of_ne_nil hdue
    refine ⟨s.chosenEvent e rest, hcons ▸ chosenEvent_mem s e rest, ?_⟩
    simp [step, hp, Machine.idleStep, hr, hcons, State.drawOrder]
  · have hstep : step s = .next s.passTime := by simp [step, hp, Machine.idleStep, hr, hdue]
    rw [hstep, passTime_eq]

end Sys2Proof.Laws
end

section
/-! PROOFS. Reset and its release (6.11, 9.8, 10.1), and the arithmetic of transits and windows (2.2, 2.3). -/

namespace Sys2Proof.Laws

open Sys2Proof Sys2Proof.Machine Sys2Proof.Safety

/-! ## Reset -/

theorem rosterEntry_resetState (s : State) {n : Nat} (h1 : 1 ≤ n) (h14 : n ≤ 14) :
    (resetState s).rosterEntry n = RosterEntry.blank := by
  have hlt : n - 1 < (List.replicate 14 RosterEntry.blank).length := by
    rw [List.length_replicate]
    omega
  simp only [State.rosterEntry, resetState, State.reset, Vector.toList_replicate]
  rw [List.getD_eq_getElem _ _ hlt, List.getElem_replicate]

/-- Settles O4: every item but the model's own is read off the reset state. -/
theorem hardwareReset : Obligations.HardwareReset := by
  unfold Obligations.HardwareReset
  intro s
  refine ⟨resetState s, rfl, ?_⟩
  refine ⟨rfl, rfl, rfl, rfl, rfl, rfl, rfl, rfl, rfl, rfl, rfl, rfl, rfl, rfl, rfl, rfl, rfl, rfl, rfl, rfl, rfl, rfl,
    rfl, rfl, fun n h1 h14 => ?_, rfl, rfl, rfl, rfl, rfl, rfl, fun _ => rfl, rfl, rfl⟩
  exact rosterEntry_resetState s h1 h14

/-- Settles O6: each invariant is one that reset establishes. -/
theorem invariantsAtReset : Obligations.InvariantsAtReset := by
  unfold Obligations.InvariantsAtReset
  have hreset : resetState State.reset = State.reset := rfl
  rw [← hreset]
  exact ⟨kept_outputsInv.resets _, kept_timersInv.resets _, kept_coverInv.resets _, kept_profileInv.resets _,
    kept_profileRanges.resets _, kept_clocksInv.resets _, kept_jamInv.resets _, kept_linkInv.resets _,
    kept_tableInv.resets _, kept_speedInv.resets _, kept_emptyInv.resets _, kept_runOutInv.resets _,
    kept_deadlinesInv.resets _, kept_sensorsInv.resets _⟩

/-! ## The release of reset (R41, R156, R158) -/

theorem strapFault_iff (s : State) : s.strapFault = true ↔ s.setup.straps = 0 ∨ s.setup.straps = 15 := by
  simp [State.strapFault]

theorem strapFault_of_valid {s : State} (h1 : 1 ≤ s.setup.straps.toNat) (h14 : s.setup.straps.toNat ≤ 14) :
    s.strapFault = false := by
  rw [← Bool.not_eq_true, strapFault_iff]
  rintro (h | h) <;> rw [h] at h1 h14
  · exact absurd h1 (by decide)
  · exact absurd h14 (by decide)

theorem stationNumber_of_valid {s : State} (h : s.strapFault = false) :
    s.stationNumber = some s.setup.straps.toNat := by
  simp [State.stationNumber, h]

theorem stationNumber_of_strapFault {s : State} (h : s.strapFault = true) : s.stationNumber = none := by
  simp [State.stationNumber, h]

/-- With a strap fault no request has an effect (R156). -/
theorem request_of_strapFault {s : State} (h : s.strapFault = true) (c : QueueClass) (dest : Nat) (body : Body) :
    s.request c dest body = s := by
  simp [State.request, h]

theorem requestPath_of_strapFault {s : State} (h : s.strapFault = true) (dest : Nat) (body : Body) :
    s.requestPath dest body = (s, []) := by
  simp [State.requestPath, h]

theorem requestCensusPart_of_strapFault {s : State} (h : s.strapFault = true) (p : CensusPart) :
    s.requestCensusPart p = s := by
  simp [State.requestCensusPart, h]

/-- The fresh HELLO of a station without a profile (R160). -/
theorem helloNow_of_unconfigured {s : State} (h : s.setup.profile = none) (isFresh : Bool) :
    s.helloNow isFresh
      = { fresh := isFresh, configured := false, rank := 0, roles := noRoles, sensorCount := 0, exitB := false } := by
  unfold State.helloNow
  rw [prof_of_none h, h]
  rfl

/-- RESET_RELEASE takes the straps and the first samples and asks for the fresh HELLO. -/
theorem exec_resetRelease {s : State} (hr : s.inReset = true) (straps : BitVec 4) (sns : Vector Level 4)
    (cvr : CoverLevel) :
    exec (.resetRelease straps sns cvr) s = .next ((released s straps sns cvr).requestHello true) :=
  congrArg _ (if_pos hr)

theorem released_sensor (s : State) (straps : BitVec 4) (sns : Vector Level 4) (cvr : CoverLevel) (k : Fin 4) :
    (released s straps sns cvr).front.sensors[k]
      = { pin := sns[k], mode := .followed, stable := sns[k], candidate := none } := by
  simp [released, sampledSensor]

/-- Settles O5: the two cases of the straps, each through the request for the fresh HELLO. -/
theorem resetRelease : Obligations.ResetRelease := by
  unfold Obligations.ResetRelease
  intro s straps sns cvr hr hprofile hreport
  refine ⟨_, exec_resetRelease hr straps sns cvr, ?_⟩
  cases hfault : (released s straps sns cvr).strapFault
  · have hhello : (released s straps sns cvr).requestHello true
        = reported (released s straps sns cvr) 15
            (.hello
              { fresh := true, configured := false, rank := 0, roles := noRoles, sensorCount := 0,
                exitB := false }) := by
      unfold State.requestHello
      rw [requestReport_eq_asked, helloNow_of_unconfigured (s := released s straps sns cvr) hprofile]
      exact asked_of_room hfault (by simp [released, hreport]) _ _
    rw [hhello]
    refine ⟨rfl, rfl, fun k => released_sensor s straps sns cvr k, rfl, fun _ => ⟨?_, ?_⟩, fun hbad => ?_, rfl, rfl,
      rfl⟩
    · exact stationNumber_of_valid hfault
    · simp [reported, released, hreport]
    · rw [(strapFault_iff _).2 hbad] at hfault
      cases hfault
  · have hhello : (released s straps sns cvr).requestHello true = released s straps sns cvr :=
      request_of_strapFault hfault _ _ _
    rw [hhello]
    refine ⟨rfl, rfl, fun k => released_sensor s straps sns cvr k, rfl, fun hvalid => ?_, fun _ => ⟨?_, hreport, ?_⟩,
      rfl, rfl, rfl⟩
    · rw [strapFault_of_valid hvalid.1 hvalid.2] at hfault
      cases hfault
    · exact stationNumber_of_strapFault hfault
    · exact fun c dest body part => ⟨request_of_strapFault hfault c dest body,
        requestPath_of_strapFault hfault dest body, requestCensusPart_of_strapFault hfault part⟩

/-! ## Transits and windows (R23, R25) -/

/-- A transit is a quotient rounded up. -/
theorem transit_le_iff {d v T : Nat} (hv : 0 < v) : transit d v ≤ T ↔ 1000 * d ≤ v * T := by
  rw [transit, ← Nat.ceilDiv_eq_add_pred_div, ceilDiv_le_iff_le_mul hv]

/-- Settles O25: the least number of ticks that covers the distance. -/
theorem transitRoundsUp : Obligations.TransitRoundsUp := by
  unfold Obligations.TransitRoundsUp
  intro d v hlow _
  have hv : 0 < v := by omega
  refine ⟨?_, fun T hT => (transit_le_iff hv).2 (Nat.mul_comm T v ▸ hT), ?_⟩
  · rw [Nat.mul_comm _ v]
    exact (transit_le_iff hv).1 (Nat.le_refl _)
  · exact Nat.le_zero.1 ((transit_le_iff hv).2 (Nat.zero_le _))

/-- Settles O26: the two branches of the window's offsets. -/
theorem windowBounds : Obligations.WindowBounds := by
  unfold Obligations.WindowBounds
  intro T t
  by_cases h : T + t ≤ 30000
  · have hw : windowOffsets T t = { early := T - t, expected := T, due := T + t, saturated := false } := if_pos h
    rw [hw]
    exact ⟨Nat.sub_le T t, Nat.le_add_right T t, h, fun _ => ⟨rfl, rfl, rfl, rfl⟩, fun hlt => absurd h (by omega)⟩
  · have hw : windowOffsets T t = { early := 0, expected := min T 30000, due := 30000, saturated := true } := if_neg h
    rw [hw]
    exact ⟨Nat.zero_le _, Nat.min_le_right _ _, Nat.le_refl _, fun hle => absurd hle h, fun _ => ⟨rfl, rfl, rfl, rfl⟩⟩

end Sys2Proof.Laws
end

section
/-! PROOFS. Samples, the edges handed on, and edges at rest (3.1, 3.2, 6.9). -/

namespace Sys2Proof.Laws

open Sys2Proof Sys2Proof.Machine Sys2Proof.Safety

/-! ## One sensor replaced -/

theorem updSensor_eq (s : State) (k : Fin 4) (f : Sensor → Sensor) :
    s.updSensor k f = withSensor s k (f s.front.sensors[k]) :=
  rfl

theorem withSensor_sensor (s : State) (k : Fin 4) (x : Sensor) : (withSensor s k x).front.sensors[k] = x := by
  simp [withSensor]

theorem withSensor_withSensor (s : State) (k : Fin 4) (x y : Sensor) :
    withSensor (withSensor s k x) k y = withSensor s k y := by
  simp [withSensor]

theorem setPin_eq (s : State) (k : Fin 4) (l : Level) :
    s.setPin k l = withSensor s k { s.front.sensors[k] with pin := l } :=
  rfl

theorem setPin_follow_eq (s : State) (k : Fin 4) (l : Level) :
    (s.setPin k l).follow k l = withSensor s k { s.front.sensors[k] with pin := l, stable := l } := by
  rw [setPin_eq, State.follow, updSensor_eq, withSensor_withSensor, withSensor_sensor]

section Samples

variable {s : State} {k : Fin 4} {l : Level}

theorem setPin_sampleFiltered_of_none (hc : s.front.sensors[k].candidate = none) :
    (s.setPin k l).sampleFiltered k l
      = if l = s.front.sensors[k].stable then withSensor s k { s.front.sensors[k] with pin := l }
        else
          withSensor s k
            { s.front.sensors[k] with pin := l, candidate := some { level := l, start := s.window.timeBase } } := by
  simp only [setPin_eq, State.sampleFiltered, withSensor_sensor, updSensor_eq, withSensor_withSensor, hc]
  rfl

theorem setPin_sampleFiltered_of_some {c : Candidate Level} (hc : s.front.sensors[k].candidate = some c) :
    (s.setPin k l).sampleFiltered k l
      = if l = s.front.sensors[k].stable then
          (withSensor s k { s.front.sensors[k] with pin := l, candidate := none }).count .chatter
        else withSensor s k { s.front.sensors[k] with pin := l } := by
  simp only [setPin_eq, State.sampleFiltered, withSensor_sensor, updSensor_eq, withSensor_withSensor, hc]

/-- A sample, by the treatment of its sensor (R38, R39). -/
theorem exec_sensorInputChange_followed (hr : s.inReset = false) (hmode : s.front.sensors[k].mode = .followed) :
    exec (.sensorInputChange k l) s
      = .next (withSensor s k { s.front.sensors[k] with pin := l, stable := l }) := by
  change execSensorInputChange k l s = _
  rw [execSensorInputChange, whileRunning_of_running hr]
  simp only [hmode, setPin_follow_eq]

theorem exec_sensorInputChange_filtered (hr : s.inReset = false) (hmode : s.front.sensors[k].mode = .filtered) :
    exec (.sensorInputChange k l) s = .next ((s.setPin k l).sampleFiltered k l) := by
  change execSensorInputChange k l s = _
  rw [execSensorInputChange, whileRunning_of_running hr]
  simp only [hmode]

theorem exec_rawEdge_followed (hr : s.inReset = false) (hmode : s.front.sensors[k].mode = .followed) :
    exec (.rawEdge k l) s = .next (withSensor s k { s.front.sensors[k] with pin := l, stable := l }) := by
  change execRawEdge k l s = _
  rw [execRawEdge, whileRunning_of_running hr]
  simp only [hmode, setPin_follow_eq]

/-- A raw sensor's sample: an edge where it differs from the stable level (R40). -/
theorem exec_rawEdge_raw (hr : s.inReset = false) (hmode : s.front.sensors[k].mode = .raw) :
    exec (.rawEdge k l) s
      = .next (if l = s.front.sensors[k].stable then withSensor s k { s.front.sensors[k] with pin := l }
        else
          (withSensor s k { s.front.sensors[k] with pin := l, stable := l }).takeEdge k l s.window.timeBase) := by
  change execRawEdge k l s = _
  rw [execRawEdge, whileRunning_of_running hr]
  simp only [hmode, setPin_follow_eq, State.now]
  simp only [setPin_eq, hmode]

theorem exec_filterConfirm_none (hr : s.inReset = false) (hc : s.front.sensors[k].candidate = none) :
    exec (.filterConfirm k) s = .next s := by
  change execFilterConfirm k s = _
  rw [execFilterConfirm, whileRunning_of_running hr]
  simp only [hc]

/-- A candidate is confirmed when it has held (R39). -/
theorem exec_filterConfirm_some (hr : s.inReset = false) {c : Candidate Level}
    (hc : s.front.sensors[k].candidate = some c) :
    exec (.filterConfirm k) s
      = .next (if s.filterReached k c then
          (withSensor s k { s.front.sensors[k] with stable := c.level, candidate := none }).takeEdge k c.level c.start
        else s) := by
  change execFilterConfirm k s = _
  rw [execFilterConfirm, whileRunning_of_running hr]
  simp only [hc, updSensor_eq]

/-- A sample of the cover switch (R42). -/
theorem exec_coverInputChange_same (hr : s.inReset = false) {cvr : CoverLevel} (h : cvr = s.front.cover.level) :
    exec (.coverInputChange cvr) s
      = .next { s with front := { s.front with cover := { s.front.cover with pin := cvr, candidate := none } } } := by
  change execCoverInputChange cvr s = _
  rw [execCoverInputChange, whileRunning_of_running hr]
  simp only [State.updCover, State.updFront, if_pos h]

theorem exec_coverInputChange_forms (hr : s.inReset = false) {cvr : CoverLevel} (h : cvr ≠ s.front.cover.level)
    (hc : s.front.cover.candidate = none) :
    exec (.coverInputChange cvr) s
      = .next { s with
          front := { s.front with
            cover := { s.front.cover with
              pin := cvr, candidate := some { level := cvr, start := s.window.timeBase } } } } := by
  change execCoverInputChange cvr s = _
  rw [execCoverInputChange, whileRunning_of_running hr]
  simp only [State.updCover, State.updFront, if_neg h, hc, State.now]

theorem exec_coverInputChange_holds (hr : s.inReset = false) {cvr : CoverLevel} (h : cvr ≠ s.front.cover.level)
    {c : Candidate CoverLevel} (hc : s.front.cover.candidate = some c) :
    exec (.coverInputChange cvr) s
      = .next { s with front := { s.front with cover := { s.front.cover with pin := cvr } } } := by
  change execCoverInputChange cvr s = _
  rw [execCoverInputChange, whileRunning_of_running hr]
  simp only [State.updCover, State.updFront, if_neg h, hc]

end Samples

/-- Settles O28: a sample replaces one sensor, or the cover switch. -/
theorem samplesTaken : Obligations.SamplesTaken := by
  unfold Obligations.SamplesTaken
  intro s k level hr
  refine ⟨fun hmode => ⟨exec_sensorInputChange_followed hr hmode, exec_rawEdge_followed hr hmode⟩,
    fun hmode hc hl => ?_, fun hmode hc hl => ?_, fun hmode c hc hl => ?_, fun hmode c hc hl => ?_,
    fun cvr => ⟨exec_coverInputChange_same hr, exec_coverInputChange_forms hr, fun hl hc => ?_⟩⟩
  · rw [exec_sensorInputChange_filtered hr hmode, setPin_sampleFiltered_of_none hc, if_pos hl]
  · rw [exec_sensorInputChange_filtered hr hmode, setPin_sampleFiltered_of_none hc, if_neg hl]
  · rw [exec_sensorInputChange_filtered hr hmode, setPin_sampleFiltered_of_some hc, if_pos hl]
    rfl
  · rw [exec_sensorInputChange_filtered hr hmode, setPin_sampleFiltered_of_some hc, if_neg hl]
  · obtain ⟨c, hc⟩ := Option.ne_none_iff_exists'.1 hc
    exact exec_coverInputChange_holds hr hl hc

/-! ## Edges handed on (R39, R40) -/

/-- Settles O29: what is confirmed is handed on with the candidate's start, or with the tick of a raw sample. -/
theorem edgesHandedOn : Obligations.EdgesHandedOn := by
  unfold Obligations.EdgesHandedOn
  intro s k hr
  refine ⟨fun c hmode hc hreached => ?_, exec_filterConfirm_none hr, fun c hc hreached => ?_,
    fun level hmode => ⟨fun hl => ?_, fun hl => ?_⟩⟩
  · have hheld : s.filterReached k c = true := by
      rw [State.filterReached, hmode]
      exact hreached
    rw [exec_filterConfirm_some hr hc, if_pos hheld]
  · have hheld : s.filterReached k c = false := by
      rw [State.filterReached, Bool.and_eq_false_iff]
      exact .inr hreached
    rw [exec_filterConfirm_some hr hc, hheld]
    rfl
  · rw [exec_rawEdge_raw hr hmode, if_neg hl]
  · rw [exec_rawEdge_raw hr hmode, if_pos hl]

/-! ## Edges at rest (R43, R102, R103, R112, R140) -/

theorem neighboursKnown_iff (s : State) :
    s.neighboursKnown = true ↔ ∀ m ∈ s.prof.neighbours, (s.rosterEntry m).configured = true := by
  simp [State.neighboursKnown]

theorem sensorsClear_iff (s : State) : s.sensorsClear = true ↔ ∀ j < s.prof.n, s.stableLevel j = .clear := by
  simp [State.sensorsClear]

theorem coveredSet_getLsbD (s : State) {j : Nat} (hj : j < 4) :
    s.coveredSet.getLsbD j = true ↔ j < s.prof.n ∧ s.stableLevel j = .covered := by
  have hbit : ∀ k, (if k < s.prof.n ∧ s.stableLevel k = .covered then BitVec.twoPow 4 k else (0 : BitVec 4)).getLsbD j
      = (decide (k < s.prof.n ∧ s.stableLevel k = .covered) && decide (k = j)) := by
    intro k
    by_cases h : k < s.prof.n ∧ s.stableLevel k = .covered
    · rw [if_pos h]
      by_cases hk : k = j <;> simp_all [BitVec.getLsbD_twoPow, eq_comm]
    · rw [if_neg h]
      simp [h]
  simp only [State.coveredSet, BitVec.getLsbD_or, hbit]
  have hcases : j = 0 ∨ j = 1 ∨ j = 2 ∨ j = 3 := by omega
  rcases hcases with rfl | rfl | rfl | rfl <;> simp

theorem readyForStandby_iff (s : State) :
    s.readyForStandby = true
      ↔ s.neighboursKnown = true ∧ s.front.cover.level = .closed ∧ s.sensorsClear = true := by
  simp [State.readyForStandby, and_assoc]

theorem judgeLinking_of_ready {s : State} (h : s.readyForStandby = true) :
    s.judgeLinking = { s with path := pathIn s .standby, tracker := { s.tracker with runOut := [] } } := by
  rcases judgeLinking_cases s with ⟨hnot, -⟩ | ⟨-, -, -, heq⟩
  · rw [h] at hnot
    cases hnot
  · exact heq

theorem judgeLinking_of_not_ready {s : State} (h : s.readyForStandby = false) : s.judgeLinking = s := by
  rcases judgeLinking_cases s with ⟨-, heq⟩ | ⟨hknown, hcover, hclear, -⟩
  · exact heq
  · rw [(readyForStandby_iff s).2 ⟨hknown, hcover, hclear⟩] at h
    cases h

/-- Residue with the cover CLOSED is counted and noticed, and HELD is entered (R112, R113, R140). -/
theorem residueFound_eq {s : State} (hcover : s.front.cover.level = .closed) (hclear : s.sensorsClear = false)
    (found : PathState) :
    s.residueFound found
      = { asked { s with counters := { s.counters with residue := raised s.counters.residue 1 } } 0
            (.notice (.residue s.path.epoch found s.coveredSet)) with
          path := pathIn s .held } := by
  have hcounted : s.count .residue
      = { s with counters := { s.counters with residue := raised s.counters.residue 1 } } := rfl
  unfold State.residueFound
  rw [hcounted, requestReport_eq_asked]
  generalize hu : ({ s with counters := { s.counters with residue := raised s.counters.residue 1 } } : State) = u
  have hpath : u.path = s.path := by rw [← hu]
  have hfront : u.front = s.front := by rw [← hu]
  have hsetup : u.setup = s.setup := by rw [← hu]
  have hkept : ∀ dest body, (asked u dest body).toState .held
      = { asked u dest body with path := pathIn s .held } := by
    intro dest body
    have hin : pathIn (asked u dest body) .held = pathIn s .held := by
      refine pathIn_of_front ?_ ((asked_front u dest body).trans hfront) .held
      rw [← requestReport_eq_asked, State.requestReport_path, hpath]
    rw [← hin]
    rfl
  rw [hkept]
  generalize ha : asked u jobStation (.notice (.residue s.path.epoch found s.coveredSet)) = a
  have hafront : a.front = s.front := by rw [← ha, asked_front, hfront]
  have hasetup : a.setup = s.setup := by rw [← ha, asked_setup, hsetup]
  rcases heldCheck_cases { a with path := pathIn s .held } with ⟨hopen, -⟩ | ⟨-, -, hclear', -⟩ | ⟨-, -, heq⟩
  · rw [show ({ a with path := pathIn s .held } : State).front = s.front from hafront, hcover] at hopen
    cases hopen
  · have hsame : ({ a with path := pathIn s .held } : State).sensorsClear = s.sensorsClear := by
      unfold State.sensorsClear State.stableLevel State.prof
      rw [show ({ a with path := pathIn s .held } : State).front = s.front from hafront,
        show ({ a with path := pathIn s .held } : State).setup = s.setup from hasetup]
    rw [hsame, hclear] at hclear'
    cases hclear'
  · rw [heq]
    have hzero : (0 : Nat) = jobStation := rfl
    rw [hzero, ha]

/-- An edge outside the states that match: it acts by state alone. -/
theorem takeEdge_of_not_matching {s : State} (h : matchingState s.path.state = false) (k : Nat) (l : Level)
    (c : Tick) :
    s.takeEdge k l c
      = if s.path.state = .linking then s.judgeLinking
        else if (s.path.state = .standby ∨ s.path.state = .verify) ∧ l = .covered then s.residueFound s.path.state
        else s := by
  simp [State.takeEdge, h]

/-- Settles O30, state by state. -/
theorem edgesAtRest : Obligations.EdgesAtRest := by
  unfold Obligations.EdgesAtRest
  intro s k level c
  refine ⟨fun hs => ?_, fun hs => ?_, fun hs hcover hclear => ?_, fun hs => ⟨fun hknown hcover hclear => ?_,
    fun hnot => ?_⟩, fun j hj => coveredSet_getLsbD s hj⟩
  · rw [takeEdge_of_not_matching (by rcases hs with h | h | h | h <;> rw [h] <;> rfl)]
    rcases hs with h | h | h | h <;> simp [h]
  · rw [takeEdge_of_not_matching (by rcases hs with h | h <;> rw [h] <;> rfl)]
    rcases hs with h | h <;> simp [h]
  · rw [takeEdge_of_not_matching (by rcases hs with h | h <;> rw [h] <;> rfl),
      if_neg (by rcases hs with h | h <;> rw [h] <;> decide), if_pos ⟨hs, rfl⟩]
    exact residueFound_eq hcover hclear s.path.state
  · rw [takeEdge_of_not_matching (by rw [hs]; rfl), if_pos hs]
    exact judgeLinking_of_ready ((readyForStandby_iff s).2
      ⟨(neighboursKnown_iff s).2 hknown, hcover, (sensorsClear_iff s).2 hclear⟩)
  · rw [takeEdge_of_not_matching (by rw [hs]; rfl), if_pos hs]
    refine judgeLinking_of_not_ready (Bool.eq_false_iff.2 fun hready => ?_)
    obtain ⟨hknown, hcover, hclear⟩ := (readyForStandby_iff s).1 hready
    rw [neighboursKnown_iff] at hknown
    rw [sensorsClear_iff] at hclear
    rcases hnot with ⟨m, hm, hm'⟩ | hopen | ⟨j, hj, hj'⟩
    · simp [hknown m hm] at hm'
    · simp [hcover] at hopen
    · simp [hclear j hj] at hj'

end Sys2Proof.Laws
end

section
/-! PROOFS. Requests as updates of the queues (R79, R149, R156), and what a matched LEAD leaves, as one update of the
state (chapters 2 to 4). -/

namespace Sys2Proof.Laws

open Sys2Proof Sys2Proof.Machine Sys2Proof.Safety

/-! ## What requests leave in a queue -/

/-- The PATH queue after frames are asked for in order. -/
def pathLeft (fault : Bool) (q frames : List Entry) : List Entry :=
  if fault = true then q else q ++ frames.take (8 - q.length)

/-- The own jams of the frames that find PATH full. -/
def pathJams (fault : Bool) (q frames : List Entry) : List JamReport :=
  if fault = true then [] else List.replicate (frames.length - (8 - q.length)) linkReport

/-- The REPORT queue after notices are asked for in order. -/
def reportLeft (fault : Bool) (q : List Entry) (notices : List Notice) : List Entry :=
  if fault = true then q else q ++ (notices.take (6 - q.length)).map fun x => fresh 0 (.notice x)

/-- How many of the notices find REPORT full. -/
def reportDrops (fault : Bool) (q : List Entry) (notices : List Notice) : Nat :=
  if fault = true then 0 else notices.length - (6 - q.length)

theorem pathAsked_eq (s : State) (frames : List Entry) :
    pathAsked s frames
      = ({ s with link := { s.link with path := pathLeft s.strapFault s.link.path frames } },
          pathJams s.strapFault s.link.path frames) := by
  unfold pathAsked pathLeft pathJams
  cases s.strapFault <;> rfl

theorem noticed_eq (s : State) (notices : List Notice) :
    noticed s notices
      = { s with
          link := { s.link with report := reportLeft s.strapFault s.link.report notices }
          counters :=
            { s.counters with
              reportDrop := raised s.counters.reportDrop (reportDrops s.strapFault s.link.report notices) } } := by
  unfold noticed reportLeft reportDrops
  cases s.strapFault
  · rfl
  · simp

theorem requestPath_eq (s : State) (dest : Nat) (body : Body) :
    s.requestPath dest body = pathAsked s [fresh dest body] := by
  rw [pathAsked_eq]
  unfold pathLeft pathJams
  rcases requestPath_cases s dest body with ⟨hfault, h⟩ | ⟨hfault, hfull, h⟩ | ⟨hfault, hroom, h⟩ <;> rw [h, hfault]
  · rfl
  · have hnone : 8 - s.link.path.length = 0 := Nat.sub_eq_zero_of_le hfull
    simp [hnone]
  · have htake : [fresh dest body].take (8 - s.link.path.length) = [fresh dest body] :=
      List.take_of_length_le (Nat.le_sub_of_add_le' hroom)
    have hzero : [fresh dest body].length - (8 - s.link.path.length) = 0 :=
      Nat.sub_eq_zero_of_le (Nat.le_sub_of_add_le' hroom)
    rw [htake, hzero]
    rfl

theorem requestNotice_eq (s : State) (x : Notice) : s.requestReport jobStation (.notice x) = noticed s [x] := by
  rw [requestReport_eq_asked, noticed_eq]
  unfold reportLeft reportDrops
  cases hfault : s.strapFault
  · by_cases hroom : s.link.report.length < 6
    · obtain ⟨m, hm⟩ : ∃ m, 6 - s.link.report.length = m + 1 := ⟨5 - s.link.report.length, by omega⟩
      rw [asked_of_room hfault hroom, hm]
      simp [reported, jobStation]
    · have hnone : 6 - s.link.report.length = 0 := by omega
      rw [asked_of_full hfault (Nat.le_of_not_lt hroom), hnone]
      simp
  · rw [asked_of_strapFault hfault]
    simp

theorem pathLeft_append (fault : Bool) (q a b : List Entry) :
    pathLeft fault (pathLeft fault q a) b = pathLeft fault q (a ++ b) := by
  unfold pathLeft
  cases fault
  · simp only [Bool.false_eq_true, if_false, List.append_assoc, List.take_append, List.length_append, List.length_take]
    congr 3
    omega
  · rfl

theorem pathJams_append (fault : Bool) (q a b : List Entry) :
    pathJams fault q a ++ pathJams fault (pathLeft fault q a) b = pathJams fault q (a ++ b) := by
  unfold pathJams pathLeft
  cases fault
  · simp only [Bool.false_eq_true, if_false, List.replicate_append_replicate, List.length_append, List.length_take]
    congr 1
    omega
  · rfl

theorem pathLeft_nil (fault : Bool) (q : List Entry) : pathLeft fault q [] = q := by
  unfold pathLeft
  cases fault <;> simp

theorem pathJams_nil (fault : Bool) (q : List Entry) : pathJams fault q [] = [] := by
  unfold pathJams
  cases fault <;> simp

theorem noticed_nil (s : State) : noticed s [] = s := by
  rw [noticed_eq]
  unfold reportLeft reportDrops
  cases s.strapFault <;> simp

/-- Notices asked for in two goes are asked for in one. -/
theorem noticed_noticed (s : State) (a b : List Notice) : noticed (noticed s a) b = noticed s (a ++ b) := by
  have hfault : (noticed s a).strapFault = s.strapFault := by rw [noticed_eq]; rfl
  rw [noticed_eq (noticed s a), hfault, noticed_eq s a, noticed_eq s (a ++ b)]
  unfold reportLeft reportDrops
  cases s.strapFault
  · simp only [Bool.false_eq_true, if_false, List.append_assoc, List.take_append, List.map_append, List.length_append,
      List.length_take, List.length_map, raised_raised]
    have hroom : 6 - (s.link.report.length + min (6 - s.link.report.length) a.length)
        = 6 - s.link.report.length - a.length := by omega
    have hdrops : a.length - (6 - s.link.report.length) + (b.length - (6 - s.link.report.length - a.length))
        = a.length + b.length - (6 - s.link.report.length) := by omega
    rw [hroom, hdrops]
  · simp

/-! ## Notices of a match (R60, R61) -/

theorem noteLead_eq (s : State) (k : Nat) (id : SheetId) (w : Window) (c : Tick) :
    s.noteLead k id w c
      = noticed (s.countBy .slip (if isSlip w c then 1 else 0)) (leadNotices s k id w c) := by
  unfold State.noteLead leadNotices
  simp only [countIf_eq, requestNotice_eq]
  cases isSlip w c <;> cases s.prof.report <;> simp [noticed_nil, noticed_noticed]

theorem noteTrail_eq (s : State) (k : Nat) (r : Machine.Record) (c : Tick) {t : State} (hprof : t.prof = s.prof) :
    t.noteTrail k r.tag.sheetId (s.trailLength k r c) = noticed t (trailNotices s k r c) := by
  unfold State.noteTrail trailNotices
  rw [hprof, requestNotice_eq]
  cases s.prof.report
  · simp [noticed_nil]
  · simp [noticed_nil]
  · rfl

/-! ## The windows of a match (R25 to R28) -/

theorem windowAt_eq (s : State) (anchor : Tick) (o : Offsets) (armed : Bool) :
    windowAt s.now anchor o armed = windowFrom s anchor o armed :=
  rfl

theorem countBy_countIf (s : State) (n : Nat) (b : Bool) (c : Counter) :
    (s.countBy c n).countIf b c = s.countBy c (n + if b then 1 else 0) := by
  rw [countIf_eq]
  cases c <;> simp [State.countBy, State.updCounters, raiseCounter]

theorem countBy_zero (s : State) (c : Counter) : s.countBy c 0 = s := by
  simp [State.countBy, State.updCounters]

theorem saturations_cons (o : Offsets) (os : List Offsets) :
    saturations (o :: os) = saturations os + if o.saturated then 1 else 0 := by
  simp [saturations, List.countP_cons]

theorem saturations_append (a b : List Offsets) : saturations (a ++ b) = saturations a + saturations b := by
  simp [saturations]

theorem anchoredFor_iff (p : Profile) (r : Machine.Record) :
    anchoredFor p r = true ↔ p.anchoring = .anchored ∨ r.entryInRunout = true := by
  simp [anchoredFor]

section Led

variable {s : State} {k : Nat} {q : Machine.Record} {c : Tick}

/-- The trail window of a matched LEAD, its clampings counted. -/
theorem trailed_eq (hcap : q.leadCaptures.getD k 0 = c) :
    (if q.trailIndex = k then giveTrailWindow k q s else (q, s))
      = ({ q with
            trailWindow := if q.trailIndex = k then some (trailWindowOf s q.tag.length c) else q.trailWindow },
          s.countBy .clamp (saturations (if q.trailIndex = k then [trailOffsetsOf s q.tag.length] else []))) := by
  by_cases hk : q.trailIndex = k
  · rw [if_pos hk, if_pos hk, if_pos hk, giveTrailWindow_eq, hcap, countIf_eq, windowAt_eq, saturations_cons]
    simp only [saturations, List.countP_nil, Nat.zero_add]
    rfl
  · rw [if_neg hk, if_neg hk, if_neg hk]
    exact congrArg _ (countBy_zero s .clamp).symm

theorem giveLeadWindow_eq_inner (hcap : q.leadCaptures.getD k 0 = c) :
    giveLeadWindow (k + 1) q s
      = ({ q with leadWindow := some (innerWindow s q (k + 1) c) },
          s.countIf (innerOffsets s q (k + 1)).saturated .clamp) := by
  have hanchor : innerAnchor s.prof q (k + 1)
      = if s.prof.anchoring = .anchored ∨ q.entryInRunout = true then c else q.entryAnchor := by
    rw [← hcap]
    exact if_congr (anchoredFor_iff _ _) rfl rfl
  have hdistance : s.leadOffsets q.tag.heavy (innerDistance s.prof q (k + 1)) = innerOffsets s q (k + 1) :=
    congrArg _ (if_congr (anchoredFor_iff _ _) rfl rfl)
  rw [giveLeadWindow_eq, hanchor, hdistance]
  rfl

/-- The windows of a LEAD short of the exit sensor. -/
theorem leadWindows_inner (hn : k + 1 < s.prof.n) (hcap : q.leadCaptures.getD k 0 = c) :
    leadWindows k q c s
      = ({ q with
            trailWindow := if q.trailIndex = k then some (trailWindowOf s q.tag.length c) else q.trailWindow
            leadWindow := some (innerWindow s q (k + 1) c) },
          s.countBy .clamp
            (saturations
              ((if q.trailIndex = k then [trailOffsetsOf s q.tag.length] else []) ++ [innerOffsets s q (k + 1)])),
          []) := by
  unfold leadWindows
  simp only [trailed_eq hcap, if_pos hn]
  rw [giveLeadWindow_eq_inner (c := c), saturations_append, saturations_cons, countBy_countIf]
  · simp only [saturations, List.countP_nil, Nat.zero_add]
    rfl
  · exact hcap

/-- The windows of a LEAD at the exit sensor, before the exit step. -/
theorem leadWindows_exit (hn : ¬k + 1 < s.prof.n) (hcap : q.leadCaptures.getD k 0 = c) :
    leadWindows k q c s
      = exitStep
          { q with
            trailWindow := if q.trailIndex = k then some (trailWindowOf s q.tag.length c) else q.trailWindow
            leadWindow := none }
          c (s.countBy .clamp (saturations (if q.trailIndex = k then [trailOffsetsOf s q.tag.length] else []))) := by
  unfold leadWindows
  simp only [trailed_eq hcap, if_neg hn]

end Led

/-! ## The exit step as an update (R48, R49) -/

theorem outputBoundFor_iff (p : Profile) (r : Machine.Record) :
    outputBoundFor p r = true ↔ r.exit = .a ∧ p.roles.delivery = true := by
  simp [outputBoundFor]

theorem sentTag_eq (s : State) (r : Machine.Record) : sentTag s.prof r = handoffTag s r := by
  unfold sentTag handoffTag
  by_cases h : s.prof.roles.flip = true ∧ r.exit = .a ∧ r.tag.side = .front
  · rw [if_pos h, if_pos (by simp [h])]
  · rw [if_neg h, if_neg (by simpa [and_assoc] using h)]

theorem armingState_iff {st : PathState} (h : matchingState st = true) : armingState st = true ↔ st ≠ .stopping := by
  cases st <;> simp_all [matchingState, armingState]

/-- The record that leaves toward a neighbour. -/
theorem sentOut_eq {s : State} (hs : matchingState s.path.state = true) (r : Machine.Record) (c : Tick) :
    ({ r with phase := .outbound, outputBound := some false, taken := some false, takeDue := s.takeDeadline r c } :
        Machine.Record)
      = sentOut s r c := by
  unfold sentOut State.takeDeadline
  by_cases hstop : s.path.state = .stopping
  · rw [if_pos hstop, if_neg (fun harm => (armingState_iff hs).1 harm hstop)]
  · rw [if_neg hstop, if_pos ((armingState_iff hs).2 hstop)]
    rfl

/-- The exit step toward a neighbour, after `m` clampings of the match. -/
theorem exitStep_toward {s : State} (hs : matchingState s.path.state = true) {r : Machine.Record} {c : Tick} {m : Nat}
    (hgate : r.exit = s.tracker.gate) (hout : ¬(r.exit = .a ∧ s.prof.roles.delivery = true)) :
    exitStep r c (s.countBy .clamp m)
      = (sentOut s r c,
          pathAsked (s.countBy .clamp (m + if 30000 < takeOffsetOf s r then 1 else 0))
            [fresh (s.prof.exitStation r.exit) (.handoff (handoffTag s r) c)]) := by
  rcases exitStep_cases r c (s.countBy .clamp m) with ⟨hne, -⟩ | ⟨-, hbound, -⟩ | ⟨-, -, h⟩
  · exact absurd hgate hne
  · exact absurd ((outputBoundFor_iff _ _).1 hbound) hout
  · have hover : (if decide (maxOffset < (s.countBy .clamp m).takeOffset r) = true then 1 else 0)
        = if 30000 < takeOffsetOf s r then 1 else 0 := if_congr decide_eq_true_iff rfl rfl
    rw [h, countBy_countIf, hover, requestPath_eq, ← sentOut_eq hs, ← sentTag_eq]
    rfl

/-! ## What a matched LEAD leaves -/

/-- What a matched LEAD at sensor `k` leaves: the table, the clampings of its windows, the frames it asks for and its
notices (R45, R47). -/
def leadLeaves (s : State) (table : List Machine.Record) (k : Nat) (r : Machine.Record) (w : Window) (c : Tick)
    (clamps : Nat) (frames : List Entry) : State × List JamReport :=
  pathAsked
    (noticed { withTable s table with counters := matchCounts s w c clamps } (leadNotices s k r.tag.sheetId w c)) frames

theorem requestTaken_eq (s : State) (r : Machine.Record) : s.requestTaken r = pathAsked s (takenFrames s r) := by
  unfold State.requestTaken takenFrames
  cases r.source <;> simp only [requestPath_eq]
  rw [pathAsked_eq, pathLeft_nil, pathJams_nil]

section Matches

variable {s : State} {k : Nat} {c : Tick} {r moved : Machine.Record} {pre post : List Machine.Record} {w : Window}
  {m : Nat} {f : List Entry} {g : List JamReport} {p : Machine.Record → Bool}

theorem matchEntryLead_eq (htable : s.tracker.table = pre ++ r :: post) (hpre : ∀ x ∈ pre, p x = false)
    (hr : p r = true) (hw : r.leadWindow = some w)
    (hlead : leadWindows 0 (s.ledRecord 0 r c) c s
      = (moved, (pathAsked (s.countBy .clamp m) f).1, g ++ (pathAsked (s.countBy .clamp m) f).2)) :
    matchEntryLead p r c s
      = ((leadLeaves s (insertResident moved (pre ++ post)) 0 r w c m (f ++ takenFrames s r)).1,
          g ++ (leadLeaves s (insertResident moved (pre ++ post)) 0 r w c m (f ++ takenFrames s r)).2) := by
  have herase : ∀ l, l = s.tracker.table → l.eraseP p = pre ++ post := by
    rintro l rfl
    rw [htable, eraseP_middle hpre hr]
  unfold matchEntryLead leadLeaves
  simp only [hlead, requestTaken_eq, State.noteMatch, hw, noteLead_eq, judgeGate_eq, pathAsked_eq, noticed_eq,
    State.updTable, State.updTracker]
  rw [herase (s.countBy .clamp m).tracker.table rfl, ← pathJams_append, ← pathLeft_append, List.append_assoc]
  rfl

theorem matchInnerLead_eq (htable : s.tracker.table = pre ++ r :: post) (hpre : ∀ x ∈ pre, p x = false)
    (hr : p r = true) (hw : r.leadWindow = some w)
    (hlead : leadWindows k (s.ledRecord k r c) c s
      = (moved, (pathAsked (s.countBy .clamp m) f).1, g ++ (pathAsked (s.countBy .clamp m) f).2)) :
    matchInnerLead p k r c s
      = ((leadLeaves s (pre ++ moved :: post) k r w c m f).1,
          g ++ (leadLeaves s (pre ++ moved :: post) k r w c m f).2) := by
  have hupdate : ∀ l, l = s.tracker.table → updateFirst p (fun _ => moved) l = pre ++ moved :: post := by
    rintro l rfl
    rw [htable, updateFirst_middle hpre hr]
  unfold matchInnerLead leadLeaves
  simp only [hlead, State.noteMatch, hw, noteLead_eq, judgeGate_eq, pathAsked_eq, noticed_eq, State.updTable,
    State.updTracker]
  rw [hupdate (s.countBy .clamp m).tracker.table rfl]
  rfl

end Matches

end Sys2Proof.Laws
end

section
/-! PROOFS. Leading edges, matched and unmatched (3.3, 3.4, 3.9). -/

namespace Sys2Proof.Laws

open Sys2Proof Sys2Proof.Machine Sys2Proof.Safety

/-! ## Which record takes a LEAD (R44, R46, R56) -/

section Choices

variable {s : State} {k : Nat} {c : Tick} {r x : Machine.Record} {pre post : List Machine.Record} {w : Window}

theorem passesEarly_some : s.passesEarly (some w) c = true ↔ inTime s w c := by
  simp [State.passesEarly, inTime]

theorem entryChoice_of_inTime (hin : r.phase = .inbound) (hw : r.leadWindow = some w) (htime : inTime s w c) :
    s.entryChoice c r = true := by
  rw [State.entryChoice, hw, passesEarly_some.2 htime, (isInbound_iff r).2 hin]
  rfl

/-- An INBOUND record whose lead window is not yet open takes no LEAD, outside STOPPING. -/
theorem entryChoice_of_early
    (h : x.phase = .inbound → s.path.state ≠ .stopping ∧ ∃ v, x.leadWindow = some v ∧ before c v.early = true) :
    s.entryChoice c x = false := by
  rw [Bool.eq_false_iff]
  intro hchosen
  rw [State.entryChoice, Bool.and_eq_true, isInbound_iff] at hchosen
  obtain ⟨hstop, v, hv, hearly⟩ := h hchosen.1
  rw [hv, passesEarly_some] at hchosen
  rcases hchosen.2 with hs | hin
  · exact hstop hs
  · rw [hearly] at hin
    cases hin

theorem innerChoice_false (h : ¬(x.phase ≠ .inbound ∧ x.leadIndex = k)) : innerChoice k x = false :=
  Bool.eq_false_iff.2 fun hchosen => h ((innerChoice_iff k x).1 hchosen)

/-- An entry LEAD goes to the first record that satisfies the choice (R44). -/
theorem takeEdge_entryLead (hs : matchingState s.path.state = true) (htable : s.tracker.table = pre ++ r :: post)
    (hpre : ∀ x ∈ pre, s.entryChoice c x = false) (hr : s.entryChoice c r = true) :
    s.takeEdge 0 .covered c = raiseFound (matchEntryLead (s.entryChoice c) r c s) := by
  have hfind : s.tracker.table.find? (s.entryChoice c) = some r := by rw [htable, find?_middle hpre hr]
  simp only [State.takeEdge, if_pos hs, if_pos, takeEntryLead, hfind]

/-- An inner LEAD goes to the oldest resident record that awaits it, in its time (R46, R56). -/
theorem takeEdge_innerLead (hs : matchingState s.path.state = true) (h1 : 1 ≤ k)
    (htable : s.tracker.table = pre ++ r :: post) (hpre : ∀ x ∈ pre, innerChoice k x = false)
    (hr : innerChoice k r = true) (hw : r.leadWindow = some w) (htime : inTime s w c) :
    s.takeEdge k .covered c = raiseFound (matchInnerLead (innerChoice k) k r c s) := by
  have hfind : s.tracker.table.find? (innerChoice k) = some r := by rw [htable, find?_middle hpre hr]
  have hk : ¬k = 0 := by omega
  have hpasses : s.passesEarly r.leadWindow c = true := by rw [hw, passesEarly_some.2 htime]
  simp only [State.takeEdge, if_pos hs, if_neg hk, takeInnerLead, hfind, if_pos hpasses]

end Choices

/-! ## The record led (R45, R47) -/

theorem ledRecord_entry (s : State) {r : Machine.Record} (h : r.leadCaptures = []) (c : Tick) :
    s.ledRecord 0 r c
      = { r with
          leadCaptures := [c]
          leadIndex := 1
          phase := .resident
          entryInRunout := decide (s.path.state = .runout) } := by
  unfold State.ledRecord
  rw [h]
  rfl

theorem ledRecord_inner (s : State) {k : Nat} (h1 : 1 ≤ k) (r : Machine.Record) (c : Tick) :
    s.ledRecord k r c = { r with leadCaptures := r.leadCaptures ++ [c], leadIndex := k + 1 } := by
  have hk : ¬k = 0 := by omega
  simp only [State.ledRecord, if_neg hk]

theorem getD_append_last {l : List Tick} {k : Nat} (h : l.length = k) (c : Tick) : (l ++ [c]).getD k 0 = c := by
  subst h
  simp

theorem pathAsked_nil (s : State) : pathAsked s [] = (s, []) := by
  rw [pathAsked_eq, pathLeft_nil, pathJams_nil]

/-! ## The exit step of a led record (R48, R49) -/

section Exit

variable {s : State} {k : Nat} {q : Machine.Record} {c : Tick}

/-- A led record past the exit sensor, before the exit step. -/
def atExit (s : State) (k : Nat) (q : Machine.Record) (c : Tick) : Machine.Record :=
  { q with
    trailWindow := if q.trailIndex = k then some (trailWindowOf s q.tag.length c) else q.trailWindow
    leadWindow := none }

/-- The clampings of its trail window. -/
def exitClamps (s : State) (k : Nat) (q : Machine.Record) : Nat :=
  saturations (if q.trailIndex = k then [trailOffsetsOf s q.tag.length] else [])

theorem leadWindows_gate (hn : ¬k + 1 < s.prof.n) (hcap : q.leadCaptures.getD k 0 = c)
    (hgate : q.exit ≠ s.tracker.gate) :
    leadWindows k q c s
      = (atExit s k q c, (pathAsked (s.countBy .clamp (exitClamps s k q)) []).1,
          [{ kind := .gate, sensor := some (s.prof.n - 1), sheetId := some q.tag.sheetId }]
            ++ (pathAsked (s.countBy .clamp (exitClamps s k q)) []).2) := by
  rw [leadWindows_exit hn hcap, pathAsked_nil]
  exact if_pos hgate

theorem leadWindows_tray (hn : ¬k + 1 < s.prof.n) (hcap : q.leadCaptures.getD k 0 = c)
    (hgate : q.exit = s.tracker.gate) (ha : q.exit = .a) (hdelivery : s.prof.roles.delivery = true) :
    leadWindows k q c s
      = ({ atExit s k q c with phase := .outbound, outputBound := some true, taken := none, takeDue := none },
          (pathAsked (s.countBy .clamp (exitClamps s k q)) []).1,
          [] ++ (pathAsked (s.countBy .clamp (exitClamps s k q)) []).2) := by
  rw [leadWindows_exit hn hcap, pathAsked_nil]
  exact (if_neg (not_not.2 hgate)).trans (if_pos ((outputBoundFor_iff _ _).2 ⟨ha, hdelivery⟩))

theorem leadWindows_toward (hs : matchingState s.path.state = true) (hn : ¬k + 1 < s.prof.n)
    (hcap : q.leadCaptures.getD k 0 = c) (hgate : q.exit = s.tracker.gate)
    (hout : ¬(q.exit = .a ∧ s.prof.roles.delivery = true)) :
    leadWindows k q c s
      = (sentOut s (atExit s k q c) c,
          (pathAsked (s.countBy .clamp (exitClamps s k q + if 30000 < takeOffsetOf s q then 1 else 0))
            [fresh (s.prof.exitStation q.exit) (.handoff (handoffTag s q) c)]).1,
          [] ++ (pathAsked (s.countBy .clamp (exitClamps s k q + if 30000 < takeOffsetOf s q then 1 else 0))
            [fresh (s.prof.exitStation q.exit) (.handoff (handoffTag s q) c)]).2) := by
  rw [leadWindows_exit hn hcap]
  exact exitStep_toward hs hgate hout

end Exit

/-! ## Matched LEADs -/

/-- Settles O31: the match, the TAKEN and the notices touch different items, so that they stand as one update. -/
theorem entryLeadMatched : Obligations.EntryLeadMatched := by
  unfold Obligations.EntryLeadMatched
  intro s c r pre post w hs hn htable hin hlead htrail hcaps hw hpre htime
  have hearly : ∀ x ∈ pre, s.entryChoice c x = false := fun x hx => entryChoice_of_early (hpre x hx)
  have hchosen := entryChoice_of_inTime hin hw htime
  have hwindows := leadWindows_inner (q := s.ledRecord 0 r c) (c := c) hn (by rw [ledRecord_entry s hcaps]; rfl)
  rw [takeEdge_entryLead hs htable hearly hchosen]
  rw [matchEntryLead_eq (g := []) (f := []) htable hearly hchosen hw (by rw [pathAsked_nil]; exact hwindows)]
  rw [ledRecord_entry s hcaps]
  simp only [htrail, if_pos]
  rfl

/-- Settles O33: the match at an inner sensor leaves the record in its place. -/
theorem innerLeadMatched : Obligations.InnerLeadMatched := by
  unfold Obligations.InnerLeadMatched
  intro s k c r pre post w hs h1 hn htable hpre hout hlead hcaps hw htime
  have hskips : ∀ x ∈ pre, innerChoice k x = false := fun x hx => innerChoice_false (hpre x hx)
  have hchosen : innerChoice k r = true := (innerChoice_iff k r).2 ⟨hout, hlead⟩
  have hwindows := leadWindows_inner (q := s.ledRecord k r c) (c := c) hn
    (by rw [ledRecord_inner s h1]; exact getD_append_last hcaps c)
  rw [takeEdge_innerLead hs h1 htable hskips hchosen hw htime]
  rw [matchInnerLead_eq (g := []) (f := []) htable hskips hchosen hw (by rw [pathAsked_nil]; exact hwindows)]
  rw [ledRecord_inner s h1, leadLeaves, pathAsked_nil]
  rfl

/-- Settles O32: the three exit steps of a station with one sensor. -/
theorem oneSensorEntry : Obligations.OneSensorEntry := by
  unfold Obligations.OneSensorEntry
  intro s c r pre post w hs hn htable hin hlead htrail hcaps hw hob htaken htake hpre htime
  have hearly : ∀ x ∈ pre, s.entryChoice c x = false := fun x hx => entryChoice_of_early (hpre x hx)
  have hchosen := entryChoice_of_inTime hin hw htime
  have hlast : ¬0 + 1 < s.prof.n := by omega
  have hcap : (s.ledRecord 0 r c).leadCaptures.getD 0 0 = c := by rw [ledRecord_entry s hcaps]; rfl
  have hatExit : atExit s 0 (s.ledRecord 0 r c) c
      = { r with
          phase := .resident
          leadIndex := 1
          leadCaptures := [c]
          leadWindow := none
          entryInRunout := decide (s.path.state = .runout)
          trailWindow := some (trailWindowOf s r.tag.length c) } := by
    rw [ledRecord_entry s hcaps, atExit]
    simp only [htrail, if_pos]
  have hclamps : exitClamps s 0 (s.ledRecord 0 r c) = saturations [trailOffsetsOf s r.tag.length] := by
    rw [ledRecord_entry s hcaps, exitClamps]
    simp only [htrail, if_pos]
  rw [takeEdge_entryLead hs htable hearly hchosen]
  refine ⟨fun hgate ha hdelivery => ?_, fun hgate hout => ?_, fun hgate => ?_⟩
  · rw [matchEntryLead_eq htable hearly hchosen hw (leadWindows_tray hlast hcap hgate ha hdelivery), hatExit, hclamps]
    simp only [htaken, htake]
    rfl
  · rw [matchEntryLead_eq htable hearly hchosen hw (leadWindows_toward hs hlast hcap hgate hout), hatExit, hclamps]
    rfl
  · rw [matchEntryLead_eq htable hearly hchosen hw (leadWindows_gate hlast hcap hgate), hatExit, hclamps, hn]
    rfl

/-- Settles O34: the three exit steps past the first sensor. -/
theorem exitLeadMatched : Obligations.ExitLeadMatched := by
  unfold Obligations.ExitLeadMatched
  intro s k c r pre post w hs h1 hn htable hpre hphase hlead htrail hcaps hw hob htaken htake htime
  have hskips : ∀ x ∈ pre, innerChoice k x = false := fun x hx => innerChoice_false (hpre x hx)
  have hchosen : innerChoice k r = true := (innerChoice_iff k r).2 ⟨by rw [hphase]; decide, hlead⟩
  have hlast : ¬k + 1 < s.prof.n := by omega
  have hcap : (s.ledRecord k r c).leadCaptures.getD k 0 = c := by
    rw [ledRecord_inner s h1]
    exact getD_append_last hcaps c
  have hatExit : atExit s k (s.ledRecord k r c) c
      = { r with
          leadIndex := k + 1
          leadCaptures := r.leadCaptures ++ [c]
          leadWindow := none
          trailWindow := if r.trailIndex = k then some (trailWindowOf s r.tag.length c) else r.trailWindow } := by
    rw [ledRecord_inner s h1]
    rfl
  have hclamps : exitClamps s k (s.ledRecord k r c)
      = saturations (if r.trailIndex = k then [trailOffsetsOf s r.tag.length] else []) := by
    rw [ledRecord_inner s h1]
    rfl
  have hexit : (s.ledRecord k r c).exit = r.exit := rfl
  rw [takeEdge_innerLead hs h1 htable hskips hchosen hw htime]
  refine ⟨fun hgate => ?_, fun hgate ha hdelivery => ?_, fun hgate hout => ?_⟩
  · have hk : s.prof.n - 1 = k := by omega
    rw [matchInnerLead_eq htable hskips hchosen hw (leadWindows_gate hlast hcap hgate), hatExit, hclamps, hk,
      leadLeaves, pathAsked_nil]
    rfl
  · rw [matchInnerLead_eq htable hskips hchosen hw (leadWindows_tray hlast hcap hgate ha hdelivery), hatExit, hclamps,
      leadLeaves, pathAsked_nil]
    simp only [htaken, htake]
    rfl
  · rw [matchInnerLead_eq htable hskips hchosen hw (leadWindows_toward hs hlast hcap hgate hout), hatExit, hclamps]
    rfl

/-! ## Unmatched LEADs (R44, R46) -/

/-- A stop disarms: what differs before and after are the deadlines of the records alone. -/
theorem disarmed_disarmed (r : Machine.Record) : r.disarmed.disarmed = r.disarmed := by
  simp [Record.disarmed, Function.comp_def]

theorem recordOwn_tracker (s : State) (r : JamReport) : (s.recordOwn r).tracker = s.tracker := by
  rcases recordOwn_cases s r with ⟨-, h⟩ | ⟨-, h⟩ <;> simp [h]

theorem queueCensus_tracker (s : State) (c : Census) : (s.queueCensus c).tracker = s.tracker := by
  unfold State.queueCensus
  induction censusParts c generalizing s with
  | nil => rfl
  | cons p ps ih => rw [List.foldl_cons, ih, State.requestCensusPart_tracker]

theorem formAndQueue_tracker (s : State) (lockout : Bool) : (s.formAndQueue lockout).tracker = s.tracker := by
  unfold State.formAndQueue
  cases s.census with
  | some c => rfl
  | none => exact queueCensus_tracker _ _

/-- An own jam leaves the records, but that a stop disarms their deadlines. -/
theorem raiseJams_disarmed (s : State) (r : JamReport) :
    (s.raiseJams [r]).tracker.table.map Record.disarmed = s.tracker.table.map Record.disarmed := by
  have hstopped : ∀ l : List Machine.Record, (l.map Record.disarmed).map Record.disarmed = l.map Record.disarmed := by
    intro l
    rw [List.map_map]
    exact List.map_congr_left fun x _ => disarmed_disarmed x
  have hkept := congrArg Tracker.table (recordOwn_tracker s r)
  rw [raiseJams_one, ← hkept]
  generalize s.recordOwn r = u
  rcases haltRequest_cases u with ⟨-, h⟩ | ⟨-, h⟩ | ⟨-, -, h⟩ | ⟨-, -, h⟩ | ⟨-, -, -, h⟩ <;> rw [h]
  · exact hstopped u.tracker.table
  · exact hstopped u.tracker.table
  · exact hstopped u.tracker.table
  · rw [State.enterLockout, formAndQueue_tracker]
    exact hstopped u.tracker.table

/-- Settles O36: no record takes the LEAD, and the first that awaits it, if any, names the jam. -/
theorem leadsUnmatched : Obligations.LeadsUnmatched := by
  unfold Obligations.LeadsUnmatched
  intro s c hs
  have hentry : s.takeEdge 0 .covered c = raiseFound (takeEntryLead c s) := by
    simp only [State.takeEdge, if_pos hs, if_pos]
  have hinner : ∀ k, 1 ≤ k → s.takeEdge k .covered c = raiseFound (takeInnerLead k c s) := fun k h1 => by
    simp only [State.takeEdge, if_pos hs, if_neg (Nat.one_le_iff_ne_zero.1 h1)]
  refine ⟨fun hnone => ?_, fun k h1 hnone => ?_, fun hstop pre post r htable => ⟨fun hpre hin hearly => ?_,
    fun k v h1 hpre hout hlead hv hearly => ?_⟩, fun r => raiseJams_disarmed s r⟩
  · have hfind : s.tracker.table.find? (s.entryChoice c) = none := List.find?_eq_none.2 fun x hx hchosen =>
      hnone x hx ((isInbound_iff x).1 (Bool.and_eq_true_iff.1 hchosen).1)
    have hinbound : s.tracker.table.find? Record.isInbound = none := List.find?_eq_none.2 fun x hx hchosen =>
      hnone x hx ((isInbound_iff x).1 hchosen)
    rw [hentry]
    simp only [takeEntryLead, hfind, hinbound]
    rfl
  · have hfind : s.tracker.table.find? (innerChoice k) = none := List.find?_eq_none.2 fun x hx hchosen =>
      hnone x hx ((innerChoice_iff k x).1 hchosen)
    rw [hinner k h1]
    simp only [takeInnerLead, hfind]
    rfl
  · have hfind : s.tracker.table.find? (s.entryChoice c) = none := List.find?_eq_none.2 fun x hx => by
      rw [entryChoice_of_early fun hxin => ⟨hstop, hearly x hx hxin⟩]
      decide
    have hinbound : s.tracker.table.find? Record.isInbound = some r := by
      rw [htable]
      exact find?_middle (fun x hx => Bool.eq_false_iff.2 fun hxin => hpre x hx ((isInbound_iff x).1 hxin))
        ((isInbound_iff r).2 hin)
    rw [hentry]
    simp only [takeEntryLead, hfind, hinbound]
    rfl
  · have hfind : s.tracker.table.find? (innerChoice k) = some r := by
      rw [htable]
      exact find?_middle (fun x hx => innerChoice_false (hpre x hx)) ((innerChoice_iff k r).2 ⟨hout, hlead⟩)
    have hfails : ¬s.passesEarly r.leadWindow c = true := by
      rw [hv, passesEarly_some]
      rintro (h | h)
      · exact hstop h
      · rw [hearly] at h
        cases h
    rw [hinner k h1]
    simp only [takeInnerLead, hfind, if_neg hfails]
    rfl

end Sys2Proof.Laws
end

section
/-! PROOFS. Trailing edges, matched and unmatched, and the notices of every matched edge (3.5, 3.10). -/

namespace Sys2Proof.Laws

open Sys2Proof Sys2Proof.Machine Sys2Proof.Safety

/-! ## Which record takes a TRAIL (R50, R56) -/

section Choices

variable {s : State} {k : Nat} {c : Tick} {r x : Machine.Record} {pre post : List Machine.Record} {w : Window}

theorem trailChoice_false (h : ¬(x.trailIndex = k ∧ k < x.leadIndex)) : trailChoice k x = false :=
  Bool.eq_false_iff.2 fun hchosen => h ((trailChoice_iff k x).1 hchosen)

theorem takeEdge_clear (hs : matchingState s.path.state = true) :
    s.takeEdge k .clear c = raiseFound (takeTrail k c s) := by
  simp only [State.takeEdge, if_pos hs]

theorem find?_trailChoice (htable : s.tracker.table = pre ++ r :: post)
    (hpre : ∀ x ∈ pre, ¬(x.trailIndex = k ∧ k < x.leadIndex)) (htrail : r.trailIndex = k) (hlead : k < r.leadIndex) :
    s.tracker.table.find? (trailChoice k) = some r := by
  rw [htable]
  exact find?_middle (fun x hx => trailChoice_false (hpre x hx)) ((trailChoice_iff k r).2 ⟨htrail, hlead⟩)

/-- A TRAIL in its time is matched, and finds no jam. -/
theorem takeEdge_trail (hs : matchingState s.path.state = true)
    (hfind : s.tracker.table.find? (trailChoice k) = some r) (hw : r.trailWindow = some w) (htime : inTime s w c) :
    s.takeEdge k .clear c = matchTrail (trailChoice k) k r c s := by
  have hpasses : s.passesEarly r.trailWindow c = true := by rw [hw, passesEarly_some.2 htime]
  rw [takeEdge_clear hs]
  simp only [takeTrail, hfind, if_pos hpasses]
  rfl

end Choices

/-- Settles O38: with none to take it the TRAIL is chatter, and before its window it is SHORT. -/
theorem trailsUnmatched : Obligations.TrailsUnmatched := by
  unfold Obligations.TrailsUnmatched
  intro s k c hs
  refine ⟨fun hnone => ?_, fun pre post r w hstop htable hpre htrail hlead hw hearly => ?_⟩
  · have hfind : s.tracker.table.find? (trailChoice k) = none := List.find?_eq_none.2 fun x hx hchosen =>
      hnone x hx ((trailChoice_iff k x).1 hchosen)
    rw [takeEdge_clear hs]
    simp only [takeTrail, hfind]
    rfl
  · have hfails : ¬s.passesEarly r.trailWindow c = true := by
      rw [hw, passesEarly_some]
      rintro (h | h)
      · exact hstop h
      · rw [hearly] at h
        cases h
    rw [takeEdge_clear hs]
    simp only [takeTrail, find?_trailChoice htable hpre htrail hlead, if_neg hfails]
    rfl

/-! ## Removals (R15 to R20, R37) -/

/-- A removal from a table with a record in it: a pending speed is applied where none is left. -/
theorem removeRecords_of_ne_nil {s : State} (hne : s.tracker.table ≠ [])
    (f : List Machine.Record → List Machine.Record) :
    s.removeRecords f
      = { s with
          window := windowAfterRemoval s.window (f s.tracker.table)
          tracker := { s.tracker with table := f s.tracker.table } } := by
  rcases removeRecords_cases s f with ⟨hempty, -, h⟩ | ⟨hleft, h⟩ <;> rw [h]
  · rw [tableEmptySignal_eq, hempty]
    simp only [State.updTable, State.updTracker, hempty]
  · obtain ⟨x, rest, hx⟩ := List.exists_cons_of_ne_nil (hleft.resolve_right hne)
    rw [hx]
    simp only [State.updTable, State.updTracker, hx]
    rfl

/-- The run-out list and the counters after a delivery (R15, R18, R19). -/
def runOutAfter (s : State) (tag : SheetTag) : List SheetTag :=
  if s.path.state = .runout then runOutAppend tag s.tracker.runOut else s.tracker.runOut

def deliveredCounters (s : State) (tag : SheetTag) : Counters :=
  { s.counters with
    delivered := raised s.counters.delivered 1
    reportDrop :=
      raised s.counters.reportDrop
        (if s.path.state = .runout ∧ runOutOverflows tag s.tracker.runOut = true then 1 else 0) }

theorem deliver_eq {s : State} (hne : s.tracker.table ≠ []) (p : Machine.Record → Bool) (tag : SheetTag) :
    s.deliver p tag
      = { s with
          window := windowAfterRemoval s.window (s.tracker.table.eraseP p)
          tracker :=
            { s.tracker with
              table := s.tracker.table.eraseP p, lastDelivered := some tag, runOut := runOutAfter s tag }
          counters := deliveredCounters s tag } := by
  unfold State.deliver runOutAfter deliveredCounters
  by_cases hs : s.path.state = .runout
  · simp only [hs, true_and, countIf_eq]
    exact removeRecords_of_ne_nil (by exact hne) _
  · simp only [hs, false_and, if_false, raised_zero]
    exact removeRecords_of_ne_nil (by exact hne) _

theorem pass_eq {s : State} (hne : s.tracker.table ≠ []) (p : Machine.Record → Bool) :
    s.pass p
      = { s with
          window := windowAfterRemoval s.window (s.tracker.table.eraseP p)
          tracker := { s.tracker with table := s.tracker.table.eraseP p }
          counters := { s.counters with passed := raised s.counters.passed 1 } } :=
  removeRecords_of_ne_nil (s := s.count .passed) hne _

theorem removalOf_delivery {r : Machine.Record} (h : r.phase = .outbound ∧ r.outputBound = some true) :
    removalOf r = .delivery :=
  if_pos h

theorem removalOf_pass {r : Machine.Record}
    (h : r.phase = .outbound ∧ r.outputBound ≠ some true ∧ r.taken = some true) : removalOf r = .pass := by
  obtain ⟨hp, hout, htaken⟩ := h
  rw [removalOf, if_neg (fun hd => hout hd.2), if_pos ⟨hp, htaken⟩]

theorem removalOf_stays {r : Machine.Record}
    (h : ¬((r.phase = .outbound ∧ r.outputBound = some true)
      ∨ (r.phase = .outbound ∧ r.outputBound ≠ some true ∧ r.taken = some true))) : removalOf r = .stays := by
  unfold removalOf
  split
  next hd => exact absurd (.inl hd) h
  next hd =>
    split
    next hp => exact absurd (.inr ⟨hp.1, fun hout => hd ⟨hp.1, hout⟩, hp.2⟩) h
    next => rfl

/-- The record condition of RUNOUT, judged at the end of an event (R109, R125). -/
theorem judgeRunout_of_holds {s : State} (h : ¬(s.path.state = .runout ∧ s.holdsSheets = false)) :
    s.judgeRunout = s :=
  if_neg h

theorem judgeRunout_of_none {s : State} (h : s.path.state = .runout ∧ s.holdsSheets = false) :
    s.judgeRunout = stoppedQuietly s :=
  if_pos h

theorem holdsSheets_eq_false {s : State} :
    s.holdsSheets = false ↔ ∀ x ∈ s.tracker.table, x.phase = .inbound := by
  simp [State.holdsSheets, isInbound_iff]

/-! ## Matched TRAILs (R51) -/

section Trails

variable {s : State} {k : Nat} {c : Tick} {r : Machine.Record} {pre post : List Machine.Record}

/-- The record of a matched TRAIL that stays. -/
theorem matchTrail_stays (htable : s.tracker.table = pre ++ r :: post) (hpre : ∀ x ∈ pre, trailChoice k x = false)
    (hr : trailChoice k r = true) (hstays : k + 1 ≠ s.prof.n ∨ removalOf r = .stays) {t : Machine.Record} {m : Nat}
    (ht : trailRecord k r s = (t, s.countBy .clamp m)) :
    matchTrail (trailChoice k) k r c s
      = noticed
          { withTable s (pre ++ t :: post) with
            counters := { s.counters with clamp := raised s.counters.clamp m } }
          (trailNotices s k r c) := by
  have hupdate : ∀ l, l = s.tracker.table → updateFirst (trailChoice k) (fun _ => t) l = pre ++ t :: post := by
    rintro l rfl
    rw [htable, updateFirst_middle hpre hr]
  have hbranch : matchTrail (trailChoice k) k r c s
      = (((s.countBy .clamp m).updTable fun l => updateFirst (trailChoice k) (fun _ => t) l).noteTrail k
          r.tag.sheetId (s.trailLength k r c)).judgeGate := by
    unfold matchTrail
    simp only [ht]
    rcases hstays with hn | hn
    · rw [if_neg hn]
    · rw [hn]
      split <;> rfl
  rw [hbranch, noteTrail_eq s k r c (t := (s.countBy .clamp m).updTable _) rfl, judgeGate_eq]
  simp only [noticed_eq, State.updTable, State.updTracker]
  rw [hupdate (s.countBy .clamp m).tracker.table rfl]
  rfl

/-- What a removal at the exit sensor leaves: its notice is asked for, and the record condition is judged. -/
theorem removal_eq {u v : State} (hv : v.judgeGate = u) (hprof : v.prof = s.prof) (hstate : u.path.state = s.path.state)
    (htable : u.tracker.table = pre ++ post) :
    let ends := s.path.state = .runout ∧ ∀ x ∈ pre ++ post, x.phase = .inbound
    let left := ((v.noteTrail k r.tag.sheetId (s.trailLength k r c)).judgeGate).judgeRunout
    (¬ends → left = noticed u (trailNotices s k r c))
      ∧ (ends → left = stoppedQuietly (noticed u (trailNotices s k r c))) := by
  have hgate : (v.noteTrail k r.tag.sheetId (s.trailLength k r c)).judgeGate = noticed u (trailNotices s k r c) := by
    rw [noteTrail_eq s k r c hprof, ← hv, judgeGate_eq, judgeGate_eq]
    simp only [noticed_eq]
    rfl
  have hcondition : ((noticed u (trailNotices s k r c)).path.state = .runout
      ∧ (noticed u (trailNotices s k r c)).holdsSheets = false)
        ↔ s.path.state = .runout ∧ ∀ x ∈ pre ++ post, x.phase = .inbound := by
    rw [holdsSheets_eq_false, noticed_eq, ← hstate, ← htable]
  rw [hgate]
  exact ⟨fun h => judgeRunout_of_holds (mt hcondition.1 h), fun h => judgeRunout_of_none (hcondition.2 h)⟩

/-- The record of a delivery or of a pass, the last table it stood in and the record condition after it. -/
def delivered (s : State) (tag : SheetTag) (left : List Machine.Record) : State :=
  { withRemoval s left with
    tracker := { (withRemoval s left).tracker with lastDelivered := some tag, runOut := runOutAfter s tag }
    counters := deliveredCounters s tag }

theorem delivered_eq (s : State) (tag : SheetTag) (left : List Machine.Record) :
    let kept := s.tracker.runOut.filter fun x => x.sheetId != tag.sheetId
    delivered s tag left
      = if s.path.state = .runout then
          { withRemoval s left with
            tracker :=
              { (withRemoval s left).tracker with
                lastDelivered := some tag
                runOut := (if 8 ≤ kept.length then kept.drop 1 else kept) ++ [tag] }
            counters :=
              { s.counters with
                delivered := raised s.counters.delivered 1
                reportDrop := raised s.counters.reportDrop (if 8 ≤ kept.length then 1 else 0) } }
        else
          { withRemoval s left with
            tracker := { (withRemoval s left).tracker with lastDelivered := some tag }
            counters := { s.counters with delivered := raised s.counters.delivered 1 } } := by
  unfold delivered runOutAfter deliveredCounters
  by_cases hs : s.path.state = .runout
  · simp only [hs, if_true, true_and, runOutOverflows, decide_eq_true_eq]
    rfl
  · simp only [hs, if_false, false_and, raised_zero]
    rfl

theorem judgeGate_deliver (htable : s.tracker.table = pre ++ r :: post) (hpre : ∀ x ∈ pre, trailChoice k x = false)
    (hr : trailChoice k r = true) :
    (s.deliver (trailChoice k) r.tag).judgeGate = delivered s r.tag (pre ++ post) := by
  rw [deliver_eq (by simp [htable]), judgeGate_eq, htable, eraseP_middle hpre hr]
  rfl

theorem judgeGate_pass {p : Machine.Record → Bool} (htable : s.tracker.table = pre ++ r :: post)
    (hpre : ∀ x ∈ pre, p x = false) (hr : p r = true) :
    (s.pass p).judgeGate
      = { withRemoval s (pre ++ post) with
          counters := { s.counters with passed := raised s.counters.passed 1 } } := by
  rw [pass_eq (by simp [htable]), judgeGate_eq, htable, eraseP_middle hpre hr]
  rfl

end Trails

/-- Settles O37: what the record is when its trail index has risen decides whether it stays, is delivered or passed. -/
theorem trailsMatched : Obligations.TrailsMatched := by
  unfold Obligations.TrailsMatched
  intro s k c r pre post w hs htable hpre htrail hlead hn hw htime
  have hskips : ∀ x ∈ pre, trailChoice k x = false := fun x hx => trailChoice_false (hpre x hx)
  have hchosen : trailChoice k r = true := (trailChoice_iff k r).2 ⟨htrail, hlead⟩
  have hne : s.tracker.table ≠ [] := by simp [htable]
  have hedge := takeEdge_trail hs (find?_trailChoice htable hpre htrail hlead) hw htime
  have hlast : ¬k + 1 < r.leadIndex → trailRecord k r s
      = ({ r with trailIndex := k + 1, trailWindow := none }, s.countBy .clamp 0) := fun h => by
    rw [countBy_zero]
    exact if_neg h
  refine ⟨fun hmore => ?_, fun hall hstays => ?_, fun hexit hdelivery => ?_, fun hexit hpass => ?_⟩
  · have hrecord : trailRecord k r s
        = ({ r with
              trailIndex := k + 1
              trailWindow := some (trailWindowOf s r.tag.length (r.leadCaptures.getD (k + 1) 0)) },
            s.countBy .clamp (saturations [trailOffsetsOf s r.tag.length])) := by
      rw [saturations_cons]
      simp only [trailRecord, if_pos hmore, giveTrailWindow_eq, countIf_eq, saturations, List.countP_nil, Nat.zero_add]
      rfl
    rw [hedge, matchTrail_stays htable hskips hchosen (.inl (by omega)) hrecord]
  · have hremoval : k + 1 ≠ s.prof.n ∨ removalOf r = .stays :=
      hstays.imp Nat.ne_of_lt removalOf_stays
    rw [hedge, matchTrail_stays htable hskips hchosen hremoval (hlast (by omega)), raised_zero]
    rfl
  · have hbranch : matchTrail (trailChoice k) k r c s
        = (((s.deliver (trailChoice k) r.tag).noteTrail k r.tag.sheetId
            (s.trailLength k r c)).judgeGate).judgeRunout := by
      unfold matchTrail
      simp only [hlast (by omega : ¬k + 1 < r.leadIndex), if_pos hexit, removalOf_delivery hdelivery, countBy_zero]
    have hleft := removal_eq (s := s) (k := k) (r := r) (c := c) (judgeGate_deliver htable hskips hchosen)
      (by rw [deliver_eq hne]; rfl) rfl rfl
    rw [delivered_eq] at hleft
    rw [hedge, hbranch]
    exact hleft
  · have hbranch : matchTrail (trailChoice k) k r c s
        = (((s.pass (trailChoice k)).noteTrail k r.tag.sheetId
            (s.trailLength k r c)).judgeGate).judgeRunout := by
      unfold matchTrail
      simp only [hlast (by omega : ¬k + 1 < r.leadIndex), if_pos hexit, removalOf_pass hpass, countBy_zero]
    rw [hedge, hbranch]
    exact removal_eq (judgeGate_pass htable hskips hchosen) (by rw [pass_eq hne]; rfl) rfl rfl

end Sys2Proof.Laws
end

section
/-! PROOFS. How own jams are recorded, and what follows in each state (5.2, 5.4, 5.5, 5.7, 6.6, 8.3). -/

namespace Sys2Proof.Laws

open Sys2Proof Sys2Proof.Machine Sys2Proof.Safety

/-! ## The jam items after an own jam (R83, R85 to R87) -/

section Recorded

variable {s : State} {r : JamReport}

theorem holdsLine_iff (j : JamMonitor) : j.holdsLine = true ↔ ∃ c, j.capture = some c ∧ c.cause = .line := by
  unfold JamMonitor.holdsLine
  cases j.capture <;> simp

theorem ownFills_iff (st : PathState) (k : JamKind) (j : JamMonitor) :
    ownFills st k j = true
      ↔ (j.capture = none ∨ ∃ c, j.capture = some c ∧ c.cause = .line)
          ∧ ¬(k = .tableFull ∧ st ≠ .run ∧ j.capture ≠ none) := by
  unfold ownFills
  rw [Bool.or_eq_true, Option.isNone_iff_eq_none, Bool.and_eq_true, holdsLine_iff]
  by_cases hcapture : j.capture = none
  · simp [hcapture]
  · simp [hcapture, imp_iff_not_or]

theorem afterOwnReport_of_fills (h : ownFills s.path.state r.kind s.jam = true) :
    s.afterOwnReport r
      = { s.jam with capture := some (ownCapture s r), highestRank := max s.jam.highestRank s.prof.rank } := by
  unfold State.afterOwnReport
  rw [if_pos h]
  rfl

theorem afterOwnReport_of_later (h : ¬ownFills s.path.state r.kind s.jam = true) :
    s.afterOwnReport r
      = { s.jam with
          laterSet := s.jam.laterSet ||| BitVec.twoPow 12 (kindCode r.kind - 1)
          laterCount := min 255 (s.jam.laterCount + 1)
          highestRank := max s.jam.highestRank s.prof.rank } := by
  unfold State.afterOwnReport
  rw [if_neg h]
  rfl

theorem jamSent_afterOwnReport (s : State) (r : JamReport) : (s.afterOwnReport r).jamSent = s.jam.jamSent := by
  by_cases h : ownFills s.path.state r.kind s.jam = true
  · rw [afterOwnReport_of_fills h]
  · rw [afterOwnReport_of_later h]

/-! ## The JAM frame of the first own jam of the epoch (R88) -/

theorem recordOwn_of_sent (h : s.jam.jamSent = true) : s.recordOwn r = { s with jam := s.afterOwnReport r } := by
  rcases recordOwn_cases s r with ⟨-, hsent⟩ | ⟨hunsent, -⟩
  · exact hsent
  · rw [h] at hunsent
    cases hunsent

theorem recordOwn_of_unsent (h : s.jam.jamSent = false) :
    s.recordOwn r
      = ({ s with jam := { s.afterOwnReport r with jamSent := true } }).request .urgent 15
          (.jam { report := r, rank := s.prof.rank, epoch := s.path.epoch }) := by
  rcases recordOwn_cases s r with ⟨hsent, -⟩ | ⟨-, hunsent⟩
  · rw [h] at hsent
    cases hsent
  · exact hunsent

theorem recordOwn_jam (s : State) (r : JamReport) :
    (s.recordOwn r).jam = { s.afterOwnReport r with jamSent := true } := by
  cases h : s.jam.jamSent
  · rw [recordOwn_of_unsent h, State.request_jam]
  · rw [recordOwn_of_sent h, ← h, ← jamSent_afterOwnReport s r]

/-- The JAM frame joins the end of URGENT. -/
theorem recordOwn_of_room (hfault : s.strapFault = false) (h : s.jam.jamSent = false)
    (hroom : s.link.urgent.length < 2) :
    s.recordOwn r
      = { s with
          jam := { s.afterOwnReport r with jamSent := true }
          link := { s.link with urgent := s.link.urgent ++ [ownJamEntry s r] } } := by
  rw [recordOwn_of_unsent h]
  rcases request_cases { s with jam := { s.afterOwnReport r with jamSent := true } } .urgent 15
    (.jam { report := r, rank := s.prof.rank, epoch := s.path.epoch }) with ⟨hf, -⟩ | ⟨-, hfull, -⟩ | ⟨-, -, hjoins⟩
  · exact absurd (hfault.symm.trans hf) Bool.false_ne_true
  · exact absurd hroom (Nat.not_lt.2 hfull)
  · exact hjoins

/-- URGENT is full, and the JAM frame is dropped. -/
theorem recordOwn_of_full (hfault : s.strapFault = false) (h : s.jam.jamSent = false)
    (hfull : 2 ≤ s.link.urgent.length) :
    s.recordOwn r
      = { s with
          jam := { s.afterOwnReport r with jamSent := true }
          counters := { s.counters with reportDrop := raised s.counters.reportDrop 1 } } := by
  rw [recordOwn_of_unsent h]
  rcases request_cases { s with jam := { s.afterOwnReport r with jamSent := true } } .urgent 15
    (.jam { report := r, rank := s.prof.rank, epoch := s.path.epoch }) with ⟨hf, -⟩ | ⟨-, -, hdrops⟩ | ⟨-, hroom, -⟩
  · exact absurd (hfault.symm.trans hf) Bool.false_ne_true
  · exact hdrops
  · exact absurd hfull (Nat.not_le.2 hroom)

/-! ## What a recorded own jam leaves -/

theorem recordOwn_setup (s : State) (r : JamReport) : (s.recordOwn r).setup = s.setup := by
  rcases recordOwn_cases s r with ⟨-, h⟩ | ⟨-, h⟩ <;> simp [h]

theorem recordOwn_front (s : State) (r : JamReport) : (s.recordOwn r).front = s.front := by
  rcases recordOwn_cases s r with ⟨-, h⟩ | ⟨-, h⟩ <;> simp [h]

theorem recordOwn_census (s : State) (r : JamReport) : (s.recordOwn r).census = s.census := by
  rcases recordOwn_cases s r with ⟨-, h⟩ | ⟨-, h⟩ <;> simp [h]

/-- A recorded jam queues at most its JAM frame, in URGENT. -/
theorem recordOwn_pathQueue (s : State) (r : JamReport) : (s.recordOwn r).link.path = s.link.path := by
  rcases recordOwn_cases s r with ⟨-, h⟩ | ⟨-, h⟩
  · simp [h]
  · rw [h]
    rcases request_cases { s with jam := { s.afterOwnReport r with jamSent := true } } .urgent 15
      (.jam { report := r, rank := s.prof.rank, epoch := s.path.epoch }) with ⟨-, h'⟩ | ⟨-, -, h'⟩ | ⟨-, -, h'⟩ <;>
      rw [h'] <;> rfl

end Recorded

/-! ## The halt request by state (R91, R106, R108, R109) -/

section Halted

variable {s : State}

theorem haltRequest_of_run (h : s.path.state = .run) :
    s.haltRequest = stoppedQuietly { s with link := { s.link with path := keptAtFlush s.link.path } } := by
  unfold State.haltRequest
  rw [h]
  rfl

theorem haltRequest_of_decide (h : s.path.state = .decide) : s.haltRequest = stoppedQuietly s := by
  unfold State.haltRequest
  rw [h]
  rfl

theorem haltRequest_of_fold (h : s.path.state = .runout) (he : s.prof.escalation = .fold) :
    s.haltRequest = stoppedQuietly s := by
  simp only [State.haltRequest, h, he]
  rfl

theorem haltRequest_of_lockout (h : s.path.state = .runout) (he : s.prof.escalation = .lockout) :
    s.haltRequest = s.enterLockout := by
  simp only [State.haltRequest, h, he]

theorem haltRequest_of_other (hr : s.path.state ≠ .run) (hd : s.path.state ≠ .decide) (ho : s.path.state ≠ .runout) :
    s.haltRequest = s := by
  rcases haltRequest_cases s with ⟨h, -⟩ | ⟨h, -⟩ | ⟨h, -⟩ | ⟨h, -⟩ | ⟨-, -, -, h⟩
  · exact absurd h hr
  · exact absurd h hd
  · exact absurd h ho
  · exact absurd h ho
  · exact h

end Halted

/-! ## The census of LOCKOUT entry (R111, R133 to R138) -/

theorem fateOf_inbound {r : Machine.Record} (h : r.phase = .inbound) : fateOf r = .notFed := by
  simp only [fateOf, h]

theorem fateOf_resident {r : Machine.Record} (h : r.phase = .resident) : fateOf r = .stranded := by
  simp only [fateOf, h]

theorem fateOf_outbound {r : Machine.Record} (h : r.phase = .outbound) :
    fateOf r = if r.outputBound = some true then .stranded else .unconfirmed := by
  simp only [fateOf, h]
  exact if_congr beq_iff_eq rfl rfl

/-- The census as its statements write it: any function that gives each record its entry. -/
theorem formCensus_of (s : State) (lockout : Bool) {f : Machine.Record → CensusEntry} {g : SheetTag → CensusEntry}
    (hf : ∀ x, f x = s.recordEntry x) (hg : ∀ x, g x = s.deliveredEntry x) :
    ({ header := (s.formCensus lockout).header
       entries := (s.tracker.table.filter fun x => !x.dropped).map f ++ s.tracker.runOut.map g } : Census)
      = s.formCensus lockout := by
  rw [funext hf, funext hg]
  rfl

/-- Disarmed deadlines and the change of state do not show in the census. -/
theorem formCensus_disarmed (s : State) (st : PathState) (lockout : Bool) :
    ((s.toState st).updTable fun l => l.map Record.disarmed).formCensus lockout = s.formCensus lockout := by
  have htable : ((s.tracker.table.map Record.disarmed).filter fun x => !x.dropped).map s.recordEntry
      = (s.tracker.table.filter fun x => !x.dropped).map s.recordEntry := by
    rw [List.filter_map, List.map_map]
    rfl
  exact congrArg
    (fun l => ({ header := (s.formCensus lockout).header, entries := l ++ s.tracker.runOut.map s.deliveredEntry } :
      Census)) htable

theorem foldl_requestCensusPart_with (parts : List CensusPart) (u : State) (p : PathController) (k : Tracker) :
    parts.foldl State.requestCensusPart { u with path := p, tracker := k }
      = { parts.foldl State.requestCensusPart u with path := p, tracker := k } := by
  induction parts generalizing u with
  | nil => rfl
  | cons part rest ih =>
    have hpart : ({ u with path := p, tracker := k } : State).requestCensusPart part
        = { u.requestCensusPart part with path := p, tracker := k } := by
      have hfault : ({ u with path := p, tracker := k } : State).strapFault = u.strapFault := rfl
      have hfull : ({ u with path := p, tracker := k } : State).queueFull .report = u.queueFull .report := rfl
      unfold State.requestCensusPart
      simp only [hfault, hfull]
      split
      · rfl
      · split
        · rfl
        · split <;> rfl
    rw [List.foldl_cons, List.foldl_cons, hpart, ih]

/-- LOCKOUT entry with no census formed. -/
theorem enterLockout_eq {s : State} (h : s.census = none) :
    s.enterLockout
      = { (censusParts (s.formCensus true)).foldl State.requestCensusPart
            { s with census := some (s.formCensus true) } with
          path := pathIn s .lockout
          tracker := { s.tracker with table := s.tracker.table.map Record.disarmed } } := by
  have hnone : ((s.toState .lockout).updTable fun l => l.map Record.disarmed).census = none := h
  unfold State.enterLockout State.formAndQueue
  simp only [hnone]
  rw [formCensus_disarmed, State.queueCensus, ← foldl_requestCensusPart_with]
  rfl

theorem formCensus_recordOwn (s : State) (r : JamReport) (lockout : Bool) :
    (s.recordOwn r).formCensus lockout
      = ({ s with jam := (s.recordOwn r).jam } : State).formCensus lockout := by
  have hsame : ∀ u : State, u.front = s.front → u.tracker = s.tracker → u.path = s.path → u.setup = s.setup →
      u.formCensus lockout = ({ s with jam := u.jam } : State).formCensus lockout := by
    rintro ⟨⟩ rfl rfl rfl rfl
    rfl
  exact hsame _ (recordOwn_front s r) (recordOwn_tracker s r) (recordOwn_path s r) (recordOwn_setup s r)

/-! ## Own jams whole -/

theorem pathIn_recordOwn (s : State) (r : JamReport) (st : PathState) : pathIn (s.recordOwn r) st = pathIn s st := by
  unfold pathIn
  rw [recordOwn_path, recordOwn_front]

/-- The first own jam of the epoch, found in RUN or DECIDE. -/
theorem raiseJams_first {s : State} {r : JamReport} (hs : s.path.state = .run ∨ s.path.state = .decide)
    (hfull : r.kind = .tableFull → s.path.state = .run) (hfirst : FirstJam s) (hroom : JamRoom s) :
    s.raiseJams [r] = stoppedFor s r := by
  have hfills : ownFills s.path.state r.kind s.jam = true := by
    rw [ownFills_iff]
    refine ⟨?_, fun h => h.2.1 (hfull h.1)⟩
    rcases hfirst with h | h <;> rw [h]
    · exact .inl rfl
    · exact .inr ⟨_, rfl, rfl⟩
  have hsent : s.jam.jamSent = false := by rcases hfirst with h | h <;> rw [h] <;> rfl
  have hjam : ({ s.jam with
      capture := some (ownCapture s r), highestRank := max s.jam.highestRank s.prof.rank, jamSent := true } :
        JamMonitor)
      = { capture := some (ownCapture s r), laterSet := 0, laterCount := 0, highestRank := s.prof.rank,
          jamSent := true } := by
    rcases hfirst with h | h <;> rw [h] <;> simp [JamMonitor.clear]
  rw [raiseJams_one, recordOwn_of_room hroom.1 hsent hroom.2, afterOwnReport_of_fills hfills]
  simp only [hjam]
  rcases hs with hs | hs
  · rw [haltRequest_of_run (by exact hs)]
    unfold stoppedFor
    rw [if_pos hs]
    rfl
  · rw [haltRequest_of_decide (by exact hs)]
    unfold stoppedFor
    rw [if_neg (by rw [hs]; decide)]
    rfl

/-- Settles O60: the jam items, the JAM frame and the halt request are each read by their cases. -/
theorem ownJamsRecorded : Obligations.OwnJamsRecorded := by
  unfold Obligations.OwnJamsRecorded
  intro s r hfault
  have hpath : (s.recordOwn r).path.state = s.path.state := congrArg PathController.state (recordOwn_path s r)
  have hprof : (s.recordOwn r).prof = s.prof := by rw [State.prof, recordOwn_setup, State.prof]
  refine ⟨fun hfills => ?_, fun hlater => ?_, fun hsent => ?_, fun hsent hroom => ?_, fun hsent hfull => ?_,
    fun hs => ?_, fun hs => ?_, fun hs hfull hfirst hroom => ?_, fun hs => ?_, fun hs he => ?_, fun hs he hc => ?_⟩
  · rw [recordOwn_jam, afterOwnReport_of_fills ((ownFills_iff _ _ _).2 hfills)]
  · have hkept : ¬ownFills s.path.state r.kind s.jam = true := by
      rw [ownFills_iff]
      exact fun h => hlater.elim (fun hn => hn h.1) h.2
    rw [recordOwn_jam, afterOwnReport_of_later hkept]
  · rw [recordOwn_of_sent hsent]
  · rw [recordOwn_of_room hfault hsent hroom]
  · rw [recordOwn_of_full hfault hsent hfull]
  · rw [raiseJams_one, haltRequest_of_run (hpath.trans hs), recordOwn_pathQueue]
  · rw [raiseJams_one, haltRequest_of_decide (hpath.trans hs)]
  · exact raiseJams_first hs hfull hfirst hroom
  · rw [raiseJams_one, haltRequest_of_other] <;> rw [hpath, hs] <;> decide
  · rw [raiseJams_one, haltRequest_of_fold (hpath.trans hs) (by rw [hprof, he])]
  · intro entry census
    have hcensus : census = (s.recordOwn r).formCensus true := by
      rw [formCensus_recordOwn]
      refine formCensus_of { s with jam := (s.recordOwn r).jam } true (fun x => ?_) fun x => rfl
      cases hp : x.phase
      · exact congrArg (entry x.tag · x.leadIndex x.trailIndex) (fateOf_inbound hp).symm
      · exact congrArg (entry x.tag · x.leadIndex x.trailIndex) (fateOf_resident hp).symm
      · exact congrArg (entry x.tag · x.leadIndex x.trailIndex) (fateOf_outbound hp).symm
    have hnone : (s.recordOwn r).census = none := (recordOwn_census s r).trans hc
    have hleft : s.raiseJams [r]
        = { (censusParts census).foldl State.requestCensusPart { s.recordOwn r with census := some census } with
            path := pathIn s .lockout
            tracker := { s.tracker with table := s.tracker.table.map Record.disarmed } } := by
      rw [raiseJams_one, haltRequest_of_lockout (hpath.trans hs) (by rw [hprof, he]), enterLockout_eq hnone, hcensus,
        ← recordOwn_tracker s r, pathIn_recordOwn]
    refine ⟨hleft, fun hroom => ?_⟩
    have hparts : (s.recordOwn r).link.report.length + (censusParts census).length ≤ 6 :=
      Nat.add_le_add hroom (censusParts_length_le census)
    have hfault' : (s.recordOwn r).strapFault = false := by rw [State.strapFault, recordOwn_setup]; exact hfault
    rw [hleft, foldl_requestCensusPart_of_room (s := { s.recordOwn r with census := some census }) hfault' hparts]

end Sys2Proof.Laws
end

section
/-! PROOFS. The notices of every matched edge, and the slip and the deviation they carry (2.5, 3.10). -/

namespace Sys2Proof.Laws

open Sys2Proof Sys2Proof.Machine Sys2Proof.Safety

/-! ## Slip and deviation (R32, R33) -/

theorem isSlip_of_disarmed {w : Window} (h : w.due = none) (c : Tick) : isSlip w c = false := by
  simp [isSlip, h]

theorem isSlip_iff {w : Window} {d : Deadline} (h : w.due = some d) (c : Tick) :
    isSlip w c = true
      ↔ before (w.expected + BitVec.ofNat 16 ((d.tick - w.expected).toNat / 2)) c = true
          ∧ before d.tick c = false := by
  simp [isSlip, h, tickPlus]

theorem toInt_ofNat_of_le {m : Nat} (h : m ≤ 32767) : (BitVec.ofNat 16 m).toInt = m := by
  have hnat : (BitVec.ofNat 16 m).toNat = m := by
    rw [BitVec.toNat_ofNat]
    omega
  rw [BitVec.toInt_eq_toNat_of_lt (by omega), hnat]

theorem deviation_after (e : Tick) {m : Nat} (h : m ≤ 32767) :
    deviation (e + BitVec.ofNat 16 m) e = ((min 30000 m : Nat) : Int) := by
  have hdiff : e + BitVec.ofNat 16 m - e = BitVec.ofNat 16 m := by bv_omega
  rw [deviation, hdiff, toInt_ofNat_of_le h]
  omega

theorem deviation_before (e : Tick) {m : Nat} (h : m ≤ 32767) :
    deviation (e - BitVec.ofNat 16 m) e = -((min 30000 m : Nat) : Int) := by
  have hdiff : e - BitVec.ofNat 16 m - e = -BitVec.ofNat 16 m := by bv_omega
  have hneg : (-BitVec.ofNat 16 m).toInt = -(m : Int) := by
    rw [BitVec.toInt_neg, toInt_ofNat_of_le h]
    exact Int.bmod_eq_of_le (by omega) (by omega)
  rw [deviation, hdiff, hneg]
  omega

theorem deviation_bounds (c e : Tick) : -30000 ≤ deviation c e ∧ deviation c e ≤ 30000 := by
  unfold deviation
  omega

/-! ## What own jams leave of the reports -/

/-- The REPORT queue, the slips and, with room in URGENT, the drops are what they were. -/
def KeepsReports (s u : State) : Prop :=
  u.link.report = s.link.report ∧ u.counters.slip = s.counters.slip
    ∧ (s.link.urgent.length < 2 → s.strapFault = false → u.counters.reportDrop = s.counters.reportDrop)

/-- Once the JAM frame is sent, a recorded jam changes the jam items alone. -/
theorem foldl_recordOwn_of_sent (rs : List JamReport) (s : State) (h : s.jam.jamSent = true) :
    ∃ j, rs.foldl State.recordOwn s = { s with jam := j } := by
  induction rs generalizing s with
  | nil => exact ⟨s.jam, rfl⟩
  | cons r rest ih =>
    obtain ⟨j, hj⟩ := ih (s.recordOwn r) (by rw [recordOwn_jam])
    exact ⟨j, by rw [List.foldl_cons, hj, recordOwn_of_sent h]⟩

theorem recordOwn_keepsReports (s : State) (r : JamReport) : KeepsReports s (s.recordOwn r) := by
  cases hsent : s.jam.jamSent
  case true =>
    rw [recordOwn_of_sent hsent]
    exact ⟨rfl, rfl, fun _ _ => rfl⟩
  case false =>
    cases hfault : s.strapFault
    case true =>
      rw [recordOwn_of_unsent hsent, request_of_strapFault (by exact hfault)]
      exact ⟨rfl, rfl, fun _ _ => rfl⟩
    case false =>
      rcases Nat.lt_or_ge s.link.urgent.length 2 with hroom | hfull
      · rw [recordOwn_of_room hfault hsent hroom]
        exact ⟨rfl, rfl, fun _ _ => rfl⟩
      · rw [recordOwn_of_full hfault hsent hfull]
        exact ⟨rfl, rfl, fun hroom => absurd hroom (Nat.not_lt.2 hfull)⟩

theorem foldl_recordOwn_keepsReports (rs : List JamReport) (s : State) :
    KeepsReports s (rs.foldl State.recordOwn s) ∧ (rs.foldl State.recordOwn s).path = s.path
      ∧ (rs.foldl State.recordOwn s).setup = s.setup := by
  cases rs with
  | nil => exact ⟨⟨rfl, rfl, fun _ _ => rfl⟩, rfl, rfl⟩
  | cons r rest =>
    obtain ⟨j, hj⟩ := foldl_recordOwn_of_sent rest (s.recordOwn r) (by rw [recordOwn_jam])
    rw [List.foldl_cons, hj]
    exact ⟨recordOwn_keepsReports s r, recordOwn_path s r, recordOwn_setup s r⟩

/-- Own jams that queue no census leave the notices queued. -/
theorem raiseJams_keepsReports (s : State) (rs : List JamReport)
    (h : ¬(s.path.state = .runout ∧ s.prof.escalation = .lockout)) : KeepsReports s (s.raiseJams rs) := by
  cases rs with
  | nil => exact ⟨rfl, rfl, fun _ _ => rfl⟩
  | cons r rest =>
    obtain ⟨hkeeps, hpath, hsetup⟩ := foldl_recordOwn_keepsReports (r :: rest) s
    change KeepsReports s ((r :: rest).foldl State.recordOwn s).haltRequest
    generalize (r :: rest).foldl State.recordOwn s = u at hkeeps hpath hsetup
    rcases haltRequest_cases u with ⟨-, hu⟩ | ⟨-, hu⟩ | ⟨-, -, hu⟩ | ⟨hs, he, -⟩ | ⟨-, -, -, hu⟩
    · rw [hu]
      exact hkeeps
    · rw [hu]
      exact hkeeps
    · rw [hu]
      exact hkeeps
    · refine absurd ⟨?_, ?_⟩ h
      · rw [← hpath, hs]
      · rw [State.prof, ← hsetup]
        exact he
    · rw [hu]
      exact hkeeps

/-! ## What a matched LEAD asks for, whatever its record -/

section Led

variable {s : State} {k : Nat} {q : Machine.Record} {c : Tick}

theorem exitStep_asks (q : Machine.Record) (c : Tick) (s : State) (m : Nat) :
    ∃ moved m' f g, exitStep q c (s.countBy .clamp m)
      = (moved, (pathAsked (s.countBy .clamp m') f).1, g ++ (pathAsked (s.countBy .clamp m') f).2) := by
  rcases exitStep_cases q c (s.countBy .clamp m) with ⟨-, h⟩ | ⟨-, -, h⟩ | ⟨-, -, h⟩
  · exact ⟨_, m, [], _, by rw [h, pathAsked_nil, List.append_nil]⟩
  · exact ⟨_, m, [], [], by rw [h, pathAsked_nil, List.append_nil]⟩
  · exact ⟨_, _, _, [], by rw [h, countBy_countIf, requestPath_eq]; rfl⟩

/-- The windows of a LEAD change the clamp counter, and at most ask for the HANDOFF. -/
theorem leadWindows_asks (s : State) (k : Nat) (q : Machine.Record) (c : Tick) :
    ∃ moved m f g, leadWindows k q c s
      = (moved, (pathAsked (s.countBy .clamp m) f).1, g ++ (pathAsked (s.countBy .clamp m) f).2) := by
  obtain ⟨q', m', htrail⟩ : ∃ q' m', (if q.trailIndex = k then giveTrailWindow k q s else (q, s))
      = (q', s.countBy .clamp m') := by
    by_cases hk : q.trailIndex = k
    · exact ⟨_, _, by rw [if_pos hk, giveTrailWindow_eq, countIf_eq]⟩
    · exact ⟨q, 0, by rw [if_neg hk, countBy_zero]⟩
  unfold leadWindows
  simp only [htrail]
  by_cases hn : k + 1 < s.prof.n
  · rw [if_pos hn, giveLeadWindow_eq, countBy_countIf]
    exact ⟨_, _, [], [], by rw [pathAsked_nil]; rfl⟩
  · rw [if_neg hn]
    exact exitStep_asks _ c s m'

end Led

/-! ## What a matched edge leaves of the reports -/

/-- How many frames REPORT can still take. -/
def reportRoom (s : State) : Nat :=
  if s.strapFault = true then 0 else 6 - s.link.report.length

theorem reportLeft_eq (s : State) (notices : List Notice) :
    reportLeft s.strapFault s.link.report notices
      = s.link.report ++ (notices.take (reportRoom s)).map fun x => fresh 0 (.notice x) := by
  unfold reportLeft reportRoom
  cases s.strapFault <;> simp

theorem reportDrops_eq {s : State} (h : s.strapFault = false) (notices : List Notice) :
    reportDrops s.strapFault s.link.report notices = notices.length - reportRoom s := by
  unfold reportDrops reportRoom
  rw [h]
  rfl

/-- The notices of an edge that is no jam, or is a jam without a census. -/
theorem lead_reports {s : State} (table : List Machine.Record) (k : Nat) (r : Machine.Record) (w : Window) (c : Tick)
    (m : Nat) (f : List Entry) (rs : List JamReport)
    (hstate : ¬(s.path.state = .runout ∧ s.prof.escalation = .lockout)) {t : State}
    (ht : t = (leadLeaves s table k r w c m f).1.raiseJams rs) :
    t.link.report
        = s.link.report
          ++ ((leadNotices s k r.tag.sheetId w c).take (reportRoom s)).map (fun x => fresh 0 (.notice x))
      ∧ t.counters.slip = raised s.counters.slip (if isSlip w c then 1 else 0)
      ∧ (s.link.urgent.length < 2 → s.strapFault = false →
          t.counters.reportDrop
            = raised s.counters.reportDrop ((leadNotices s k r.tag.sheetId w c).length - reportRoom s)) := by
  have hkeeps : KeepsReports (leadLeaves s table k r w c m f).1 t := by
    rw [ht]
    refine raiseJams_keepsReports _ rs ?_
    rw [leadLeaves, pathAsked_eq, noticed_eq]
    exact hstate
  rw [leadLeaves, pathAsked_eq, noticed_eq] at hkeeps
  obtain ⟨hreport, hslip, hdrop⟩ := hkeeps
  refine ⟨hreport.trans (reportLeft_eq s _), hslip, fun hroom hfault => (hdrop hroom hfault).trans ?_⟩
  exact congrArg (raised s.counters.reportDrop) (reportDrops_eq hfault _)

section Trails

variable {s : State} {k : Nat} {c : Tick} {r : Machine.Record}

theorem trailRecord_asks (k : Nat) (r : Machine.Record) (s : State) :
    ∃ t m, trailRecord k r s = (t, s.countBy .clamp m) := by
  unfold trailRecord
  by_cases hmore : k + 1 < r.leadIndex
  · exact ⟨_, _, by rw [if_pos hmore, giveTrailWindow_eq, countIf_eq]⟩
  · exact ⟨_, 0, by rw [if_neg hmore, countBy_zero]⟩

/-- A matched TRAIL queues its notice and counts no slip. -/
def TrailNoted (s : State) (k : Nat) (r : Machine.Record) (c : Tick) (t : State) : Prop :=
  t.link.report
      = s.link.report ++ ((trailNotices s k r c).take (reportRoom s)).map (fun x => fresh 0 (.notice x))
    ∧ t.counters.slip = s.counters.slip

theorem trailNoted_of {v : State} (hsetup : v.setup = s.setup) (hlink : v.link = s.link)
    (hslip : v.counters.slip = s.counters.slip) :
    TrailNoted s k r c (v.noteTrail k r.tag.sheetId (s.trailLength k r c)).judgeGate := by
  have hprof : v.prof = s.prof := by rw [State.prof, hsetup, State.prof]
  have hfault : v.strapFault = s.strapFault := by rw [State.strapFault, hsetup, State.strapFault]
  rw [noteTrail_eq s k r c hprof, noticed_eq, judgeGate_eq, hfault, hlink]
  exact ⟨reportLeft_eq s _, hslip⟩

/-- The record condition of RUNOUT does not touch the reports. -/
theorem TrailNoted.judgeRunout {t : State} (h : TrailNoted s k r c t) : TrailNoted s k r c t.judgeRunout := by
  rcases judgeRunout_cases t with ⟨ht, -⟩ | ⟨-, -, ht⟩
  · rw [ht]
    exact h
  · rw [ht]
    exact h

theorem matchTrail_noted (hne : s.tracker.table ≠ []) (p : Machine.Record → Bool) :
    TrailNoted s k r c (matchTrail p k r c s) := by
  obtain ⟨t, m, ht⟩ := trailRecord_asks k r s
  have hstays : TrailNoted s k r c
      (((s.countBy .clamp m).updTable fun l => updateFirst p (fun _ => t) l).noteTrail k r.tag.sheetId
        (s.trailLength k r c)).judgeGate := trailNoted_of rfl rfl rfl
  unfold matchTrail
  simp only [ht]
  split
  · split
    · refine (trailNoted_of (v := (s.countBy .clamp m).deliver p r.tag) ?_ ?_ ?_).judgeRunout <;>
        rw [deliver_eq (s := s.countBy .clamp m) hne] <;> rfl
    · refine (trailNoted_of (v := (s.countBy .clamp m).pass p) ?_ ?_ ?_).judgeRunout <;>
        rw [pass_eq (s := s.countBy .clamp m) hne] <;> rfl
    · exact hstays
  · exact hstays

end Trails

/-- Settles O35: whatever the record, a matched edge touches the REPORT queue by its notices alone. -/
theorem matchNotices : Obligations.MatchNotices := by
  unfold Obligations.MatchNotices
  intro s k c r pre post w hs htable
  have hne : s.tracker.table ≠ [] := by simp [htable]
  refine ⟨fun hstate hentry hinner hw htime => ?_, fun htrail hlead hpre hw htime => ?_,
    fun h => isSlip_of_disarmed h c, fun d h => isSlip_iff h c,
    fun m hm => ⟨deviation_after _ hm, deviation_before _ hm⟩, deviation_bounds c w.expected⟩
  · obtain ⟨moved, m, f, g, hwindows⟩ := leadWindows_asks s k (s.ledRecord k r c) c
    rcases Nat.eq_zero_or_pos k with rfl | h1
    · obtain ⟨hin, hearly⟩ := hentry rfl
      have hskips : ∀ x ∈ pre, s.entryChoice c x = false := fun x hx => entryChoice_of_early (hearly x hx)
      have hchosen := entryChoice_of_inTime hin hw htime
      have hedge := takeEdge_entryLead hs htable hskips hchosen
      rw [matchEntryLead_eq htable hskips hchosen hw hwindows] at hedge
      exact lead_reports _ 0 r w c m _ _ hstate hedge
    · obtain ⟨⟨hout, hlead⟩, hothers⟩ := hinner h1
      have hskips : ∀ x ∈ pre, innerChoice k x = false := fun x hx => innerChoice_false (hothers x hx)
      have hchosen : innerChoice k r = true := (innerChoice_iff k r).2 ⟨hout, hlead⟩
      have hedge := takeEdge_innerLead hs h1 htable hskips hchosen hw htime
      rw [matchInnerLead_eq htable hskips hchosen hw hwindows] at hedge
      exact lead_reports _ k r w c m _ _ hstate hedge
  · rw [takeEdge_trail hs (find?_trailChoice htable hpre htrail hlead) hw htime]
    exact matchTrail_noted hne _

end Sys2Proof.Laws
end

section
/-! PROOFS. The confirmed cover level and the samples of the halt line (3.1, 6.2, 6.10). -/

namespace Sys2Proof.Laws

open Sys2Proof Sys2Proof.Machine Sys2Proof.Safety

/-! ## The cover (R42, R117) -/

section Cover

variable {s : State} {d : Candidate CoverLevel}

/-- The state with the debounced cover level confirmed, and DRV with it (R42, R96). -/
def coverKnown (s : State) (level : CoverLevel) : State :=
  { s with
    front := { s.front with cover := { s.front.cover with level := level, candidate := none } }
    path := { s.path with drv := drives s.path.state level } }

theorem exec_coverConfirm_opened (hr : s.inReset = false) (hc : s.front.cover.candidate = some d)
    (hd : reached s.window.timeBase (d.start + 49) = true) (hl : d.level = .opened) :
    exec .coverConfirm s = .next (coverKnown s .opened).coverOpens := by
  have hreached : s.coverReached d = true := hd
  change execCoverConfirm s = _
  rw [execCoverConfirm, whileRunning_of_running hr]
  simp only [hc, hl, if_pos hreached]
  rfl

theorem exec_coverConfirm_closed (hr : s.inReset = false) (hc : s.front.cover.candidate = some d)
    (hd : reached s.window.timeBase (d.start + 49) = true) (hl : d.level = .closed) :
    exec .coverConfirm s = .next (coverKnown s .closed).coverCloses := by
  have hreached : s.coverReached d = true := hd
  change execCoverConfirm s = _
  rw [execCoverConfirm, whileRunning_of_running hr]
  simp only [hc, hl, if_pos hreached]
  rfl

theorem coverOpens_of_matching (hs : s.path.state = .run ∨ s.path.state = .decide) :
    s.coverOpens = s.raiseJams [{ kind := .cover, sensor := none, sheetId := none }] := by
  rcases hs with h | h <;> simp only [State.coverOpens, h] <;> rfl

theorem coverOpens_of_runout (hs : s.path.state = .runout) :
    s.coverOpens = stoppedQuietly (s.recordOwn { kind := .cover, sensor := none, sheetId := none }) := by
  simp only [State.coverOpens, hs]
  rfl

theorem coverOpens_of_resting (hs : s.path.state = .standby ∨ s.path.state = .held ∨ s.path.state = .verify) :
    s.coverOpens = { s with path := pathIn s .clearing } := by
  rcases hs with h | h | h <;> simp only [State.coverOpens, h] <;> rfl

theorem coverOpens_of_other (hs : s.path.state = .unconfigured ∨ s.path.state = .linking ∨ s.path.state = .stopping
    ∨ s.path.state = .clearing ∨ s.path.state = .lockout) : s.coverOpens = s := by
  rcases hs with h | h | h | h | h <;> simp only [State.coverOpens, h]

theorem coverCloses_of_clearing (hs : s.path.state = .clearing) (hclear : s.sensorsClear = true) :
    s.coverCloses
      = { s with
          path :=
            { pathIn s .verify with
              coverSettle := some (s.window.timeBase + BitVec.ofNat 16 s.prof.coverSettle) } } := by
  simp only [State.coverCloses, hs, State.enterVerify, if_pos hclear]
  rfl

theorem coverCloses_of_residue (hs : s.path.state = .clearing) (hcover : s.front.cover.level = .closed)
    (hclear : s.sensorsClear = false) :
    s.coverCloses
      = { asked { s with counters := { s.counters with residue := raised s.counters.residue 1 } } 0
            (.notice (.residue s.path.epoch .verify s.coveredSet)) with
          path := pathIn s .held } := by
  have hfound : ¬s.sensorsClear = true := by simp [hclear]
  simp only [State.coverCloses, hs, State.enterVerify, if_neg hfound]
  rw [residueFound_toState, residueFound_eq hcover hclear]

theorem coverCloses_of_linking (hs : s.path.state = .linking) : s.coverCloses = s.judgeLinking := by
  simp only [State.coverCloses, hs]

theorem coverCloses_of_other (hc : s.path.state ≠ .clearing) (hl : s.path.state ≠ .linking) : s.coverCloses = s := by
  unfold State.coverCloses
  split
  next h => exact absurd h hl
  next h => exact absurd h hc
  all_goals rfl

end Cover

/-- Settles O39, state by state. -/
theorem coverConfirmed : Obligations.CoverConfirmed := by
  unfold Obligations.CoverConfirmed
  intro s d hr hc hd
  refine ⟨fun hl => ?_, fun hl => ?_⟩
  · rw [exec_coverConfirm_opened hr hc hd hl, hl]
    refine ⟨fun hs hfirst hroom => ?_, fun hs => ?_, fun hs => ?_, fun hs => ?_, fun hs => ?_⟩
    · rw [coverOpens_of_matching (s := coverKnown s .opened) hs,
        raiseJams_first (s := coverKnown s .opened) hs (by rintro ⟨⟩) hfirst hroom]
      rfl
    · rw [coverOpens_of_matching (s := coverKnown s .opened) hs]
      rfl
    · rw [coverOpens_of_runout (s := coverKnown s .opened) hs]
      rfl
    · rw [coverOpens_of_resting (s := coverKnown s .opened) hs]
      rfl
    · rw [coverOpens_of_other (s := coverKnown s .opened) hs]
      rfl
  · rw [exec_coverConfirm_closed hr hc hd hl, hl]
    refine ⟨fun hs hclear => ?_, fun hs hclear => ?_, fun hs => ⟨fun hknown hclear => ?_, fun hnot => ?_⟩,
      fun hclearing hlinking => ?_⟩
    · rw [coverCloses_of_clearing (s := coverKnown s .closed) hs hclear]
      rfl
    · rw [coverCloses_of_residue (s := coverKnown s .closed) hs rfl hclear]
      rfl
    · rw [coverCloses_of_linking (s := coverKnown s .closed) hs,
        judgeLinking_of_ready (s := coverKnown s .closed) ((readyForStandby_iff _).2 ⟨hknown, rfl, hclear⟩)]
      rfl
    · have hready : (coverKnown s .closed).readyForStandby = false := Bool.eq_false_iff.2 fun hready => by
        obtain ⟨hknown, -, hclear⟩ := (readyForStandby_iff _).1 hready
        rcases hnot with h | h
        · exact Bool.false_ne_true (h.symm.trans hknown)
        · exact Bool.false_ne_true (h.symm.trans hclear)
      rw [coverCloses_of_linking (s := coverKnown s .closed) hs, judgeLinking_of_not_ready hready]
      rfl
    · rw [coverCloses_of_other (s := coverKnown s .closed) hclearing hlinking]
      rfl

/-! ## The halt line (R98, R99) -/

theorem lineSample_eq_false {s : State} {others : Bool} :
    (s.setOthersHold others).lineSample = false ↔ s.path.hold = true ∨ others = true := by
  change (!s.path.hold && !others) = false ↔ _
  cases s.path.hold <;> simp

theorem sampleLine_of_observed {s : State} (hs : s.path.state = .run) (hlow : s.lineSample = false) :
    s.sampleLine = State.observeLine { s with path := { s.path with lineHigh := false } } := by
  unfold State.sampleLine
  rw [if_pos ⟨hs, hlow⟩, hlow]
  rfl

theorem sampleLine_of_kept {s : State} (h : s.path.state ≠ .run ∨ s.lineSample ≠ false) :
    s.sampleLine = { s with path := { s.path with lineHigh := s.lineSample } } := by
  unfold State.sampleLine
  rw [if_neg (fun hboth => h.elim (· hboth.1) (· hboth.2))]
  rfl

/-- Settles O40: what the sample reads, and what RUN makes of it. -/
theorem lineSamples : Obligations.LineSamples := by
  unfold Obligations.LineSamples
  intro s others
  have hrunning : s.inReset = false →
      exec (.haltLineChange others) s = .next (s.setOthersHold others).sampleLine := fun hr => by
    change execHaltLineChange others s = _
    rw [execHaltLineChange, hr]
    rfl
  refine ⟨fun hr hs hlow => ?_, fun hr hkept => ?_, fun hr => ?_⟩
  · rw [hrunning hr,
      sampleLine_of_observed (s := s.setOthersHold others) hs (lineSample_eq_false.2 hlow), observeLine_eq]
    rfl
  · rw [hrunning hr, sampleLine_of_kept (s := s.setOthersHold others) (hkept.imp_right (mt lineSample_eq_false.1))]
    rfl
  · change execHaltLineChange others s = _
    rw [execHaltLineChange, if_pos hr]
    rfl

end Sys2Proof.Laws
end

section
/-! PROOFS. The expiries: deadlines, the DECIDE timer and STOP_SETTLE (2.1, 3.6, 6.7, 7.1, 7.2, 8.2 to 8.4). -/

namespace Sys2Proof.Laws

open Sys2Proof Sys2Proof.Machine Sys2Proof.Safety

/-! ## Deadlines (R22, R52 to R54) -/

section Deadlines

variable {s : State} {pre post : List Machine.Record} {r : Machine.Record}

theorem findSheet_middle (htable : s.tracker.table = pre ++ r :: post)
    (hpre : ∀ x ∈ pre, x.tag.sheetId ≠ r.tag.sheetId) : s.findSheet r.tag.sheetId = some r := by
  rw [State.findSheet, htable]
  exact find?_middle (fun x hx => by simpa [Record.isSheet] using hpre x hx) (by simp [Record.isSheet])

theorem updSheet_middle (htable : s.tracker.table = pre ++ r :: post)
    (hpre : ∀ x ∈ pre, x.tag.sheetId ≠ r.tag.sheetId) (f : Machine.Record → Machine.Record) :
    s.updSheet r.tag.sheetId f = { s with tracker := { s.tracker with table := pre ++ f r :: post } } := by
  have hupdate : updateFirst (Record.isSheet r.tag.sheetId) f s.tracker.table = pre ++ f r :: post := by
    rw [htable]
    exact updateFirst_middle (fun x hx => by simpa [Record.isSheet] using hpre x hx) (by simp [Record.isSheet])
  rw [State.updSheet, State.updTable, State.updTracker, hupdate]

theorem expires_some {d : Deadline} :
    s.expires (some d) = true ↔ reached s.window.timeBase d.tick = true ∧ d.armedAt ≠ s.window.timeBase := by
  simp [State.expires, State.now]

theorem windowDue_of {v : Option Window} {w : Window} {d : Deadline} (hw : v = some w) (hd : w.due = some d) :
    windowDue v = some d := by
  rw [hw]
  exact hd

theorem exec_leadExpiry (hr : s.inReset = false) (hfind : s.findSheet r.tag.sheetId = some r) :
    exec (.leadExpiry r.tag.sheetId) s
      = .next
        (if s.expires (windowDue r.leadWindow) = true then
          if armingState s.path.state = true then
            (s.updSheet r.tag.sheetId Record.leadDisarmed).raiseJams
              [{ kind := .late, sensor := some r.leadIndex, sheetId := some r.tag.sheetId }]
          else s.updSheet r.tag.sheetId Record.leadDisarmed
        else s) := by
  change execLeadExpiry r.tag.sheetId s = _
  rw [execLeadExpiry, whileRunning_of_running hr]
  simp only [hfind]

theorem exec_trailExpiry_covered (hr : s.inReset = false) (hfind : s.findSheet r.tag.sheetId = some r)
    (hdue : s.expires (windowDue r.trailWindow) = true) (harm : armingState s.path.state = true)
    (hlevel : s.stableLevel r.trailIndex = .covered) :
    exec (.trailExpiry r.tag.sheetId) s
      = .next ((s.updSheet r.tag.sheetId Record.trailDisarmed).raiseJams
          [{ kind := .stall, sensor := some r.trailIndex, sheetId := some r.tag.sheetId }]) := by
  change execTrailExpiry r.tag.sheetId s = _
  rw [execTrailExpiry, whileRunning_of_running hr]
  simp only [hfind, if_pos hdue, if_pos harm, hlevel]

theorem exec_trailExpiry_clear (hr : s.inReset = false) (hfind : s.findSheet r.tag.sheetId = some r)
    (hdue : s.expires (windowDue r.trailWindow) = true) (harm : armingState s.path.state = true)
    (hlevel : s.stableLevel r.trailIndex = .clear) :
    exec (.trailExpiry r.tag.sheetId) s
      = .next
        (if s.path.state = .runout then stoppedQuietly (s.updSheet r.tag.sheetId Record.trailDisarmed)
        else s.updSheet r.tag.sheetId Record.trailDisarmed) := by
  change execTrailExpiry r.tag.sheetId s = _
  rw [execTrailExpiry, whileRunning_of_running hr]
  simp only [hfind, if_pos hdue, if_pos harm, hlevel]
  rfl

theorem exec_trailExpiry_unarmed (hr : s.inReset = false) (hfind : s.findSheet r.tag.sheetId = some r)
    (hdue : s.expires (windowDue r.trailWindow) = true) (harm : armingState s.path.state = false) :
    exec (.trailExpiry r.tag.sheetId) s = .next (s.updSheet r.tag.sheetId Record.trailDisarmed) := by
  change execTrailExpiry r.tag.sheetId s = _
  rw [execTrailExpiry, whileRunning_of_running hr]
  simp only [hfind, if_pos hdue, harm, Bool.false_eq_true, if_false]

theorem exec_trailExpiry_early (hr : s.inReset = false) (hfind : s.findSheet r.tag.sheetId = some r)
    (hdue : ¬s.expires (windowDue r.trailWindow) = true) : exec (.trailExpiry r.tag.sheetId) s = .next s := by
  change execTrailExpiry r.tag.sheetId s = _
  rw [execTrailExpiry, whileRunning_of_running hr]
  simp only [hfind, if_neg hdue]

theorem exec_takeExpiry (hr : s.inReset = false) (hfind : s.findSheet r.tag.sheetId = some r) :
    exec (.takeExpiry r.tag.sheetId) s
      = .next
        (if s.expires r.takeDue = true then
          if armingState s.path.state = true ∧ r.taken = some false then
            (s.updSheet r.tag.sheetId Record.takeDisarmed).raiseJams
              [{ kind := .handoff, sensor := some (s.prof.n - 1), sheetId := some r.tag.sheetId }]
          else s.updSheet r.tag.sheetId Record.takeDisarmed
        else s) := by
  change execTakeExpiry r.tag.sheetId s = _
  rw [execTakeExpiry, whileRunning_of_running hr]
  simp only [hfind, Bool.and_eq_true, beq_iff_eq]
  rfl

/-- The first own jam of the epoch, once its deadline is disarmed. -/
theorem raiseJams_first_after {k : Tracker} {x : JamReport}
    (h : (s.path.state = .run ∨ s.path.state = .decide) ∧ FirstJam s ∧ JamRoom s) (hkind : x.kind ≠ .tableFull) :
    State.raiseJams { s with tracker := k } [x] = stoppedFor { s with tracker := k } x :=
  raiseJams_first (s := { s with tracker := k }) h.1 (fun hfull => absurd hfull hkind) h.2.1 h.2.2

theorem armingState_of_stopping (hs : s.path.state = .run ∨ s.path.state = .decide) :
    armingState s.path.state = true := by
  rcases hs with h | h <;> rw [h] <;> rfl

end Deadlines

/-- Settles O41, one kind of deadline at a time. -/
theorem deadlinesExpire : Obligations.DeadlinesExpire := by
  unfold Obligations.DeadlinesExpire
  intro s pre post r d hr htable hpre
  have hfind := findSheet_middle htable hpre
  refine ⟨fun w hw hd => ?_, fun w hw hd => ?_, fun hd => ?_⟩
  · have hexpires := expires_some (s := s) (d := d)
    rw [← windowDue_of hw hd] at hexpires
    rw [exec_leadExpiry hr hfind, updSheet_middle htable hpre]
    refine ⟨fun hdue harm => ?_, fun hdue hfirst => ?_, fun hdue harm => ?_, fun hdue => ?_⟩
    · rw [if_pos (hexpires.2 hdue), if_pos harm]
      rfl
    · rw [if_pos (hexpires.2 hdue), if_pos (armingState_of_stopping hfirst.1)]
      exact congrArg Host.Outcome.next (raiseJams_first_after hfirst (by simp))
    · rw [if_pos (hexpires.2 hdue), if_neg (by simp [harm])]
      rfl
    · rw [if_neg (mt hexpires.1 hdue)]
  · have hexpires := expires_some (s := s) (d := d)
    rw [← windowDue_of hw hd] at hexpires
    refine ⟨fun hdue harm hlevel => ?_, fun hdue hfirst hlevel => ?_, fun hdue hs hlevel => ?_,
      fun hdue hs hlevel => ?_, fun hdue harm => ?_, fun hdue => ?_⟩
    · rw [exec_trailExpiry_covered hr hfind (hexpires.2 hdue) harm hlevel, updSheet_middle htable hpre]
      rfl
    · rw [exec_trailExpiry_covered hr hfind (hexpires.2 hdue) (armingState_of_stopping hfirst.1) hlevel,
        updSheet_middle htable hpre]
      exact congrArg Host.Outcome.next (raiseJams_first_after hfirst (by simp))
    · rw [exec_trailExpiry_clear hr hfind (hexpires.2 hdue) (by rw [hs]; rfl) hlevel, if_pos hs,
        updSheet_middle htable hpre]
      rfl
    · cases harm : armingState s.path.state
      · rw [exec_trailExpiry_unarmed hr hfind (hexpires.2 hdue) harm, updSheet_middle htable hpre]
        rfl
      · rw [exec_trailExpiry_clear hr hfind (hexpires.2 hdue) harm hlevel, if_neg hs, updSheet_middle htable hpre]
        rfl
    · rw [exec_trailExpiry_unarmed hr hfind (hexpires.2 hdue) harm, updSheet_middle htable hpre]
      rfl
    · rw [exec_trailExpiry_early hr hfind (mt hexpires.1 hdue)]
  · have hexpires := expires_some (s := s) (d := d)
    rw [← hd] at hexpires
    rw [exec_takeExpiry hr hfind, updSheet_middle htable hpre]
    refine ⟨fun hdue harm htaken => ?_, fun hdue hfirst htaken => ?_, fun hdue htaken => ?_, fun hdue harm => ?_,
      fun hdue => ?_⟩
    · rw [if_pos (hexpires.2 hdue), if_pos ⟨harm, htaken⟩]
      rfl
    · rw [if_pos (hexpires.2 hdue), if_pos ⟨armingState_of_stopping hfirst.1, htaken⟩]
      exact congrArg Host.Outcome.next (raiseJams_first_after hfirst (by simp))
    · rw [if_pos (hexpires.2 hdue), if_neg (by simp [htaken])]
      rfl
    · rw [if_pos (hexpires.2 hdue), if_neg (by simp [harm])]
      rfl
    · rw [if_neg (mt hexpires.1 hdue)]

/-! ## The end of DECIDE (R108, R119 to R121) -/

theorem downstreamRuns_iff (s : State) :
    s.downstreamRuns = true
      ↔ s.prof.roles.delivery = true
          ∨ (1 ≤ s.prof.exitA ∧ s.prof.exitA ≤ 14 ∧ (s.rosterEntry s.prof.exitA).configured = true
            ∧ (s.rosterEntry s.prof.exitA).roles.runout = true
            ∧ (s.rosterEntry s.prof.exitA).roles.loop = false
            ∧ s.jam.highestRank < (s.rosterEntry s.prof.exitA).rank) := by
  simp [State.downstreamRuns, and_assoc]

theorem eligible_iff (s : State) :
    s.eligible = true
      ↔ s.front.cover.level = .closed ∧ (s.prof.roles.runout = true ∧ s.prof.roles.loop = false)
          ∧ (0 < s.jam.highestRank ∧ s.jam.highestRank < s.prof.rank)
          ∧ (∀ r ∈ s.tracker.table, r.phase ≠ .inbound → r.exit = .a) ∧ s.downstreamRuns = true := by
  simp [State.eligible, and_assoc, isInbound_iff, imp_iff_not_or]

/-- RUNOUT entry with a sheet to run out (R121). -/
theorem endDecide_of_runs {s : State} (he : s.eligible = true) (hh : s.holdsSheets = true) :
    s.endDecide
      = { s with
          path := { pathIn s .runout with drv := true }
          tracker := { s.tracker with table := s.tracker.table.map Record.atRunout } } := by
  have hdrives : drives .runout s.front.cover.level = true := by rw [closed_of_eligible he]; rfl
  rcases endDecide_cases s with ⟨-, -, h⟩ | ⟨hnot, -⟩
  · rw [h, ← hdrives]
    rfl
  · rw [he, hh] at hnot
    simp at hnot

theorem endDecide_of_stops {s : State} (h : s.eligible = false ∨ s.holdsSheets = false) :
    s.endDecide = stoppedQuietly s := by
  rcases endDecide_cases s with ⟨he, hh, -⟩ | ⟨-, heq⟩
  · rw [he, hh] at h
    simp at h
  · exact heq

/-- Settles O42: the five conditions, and the two ends of DECIDE. -/
theorem decideEnds : Obligations.DecideEnds := by
  unfold Obligations.DecideEnds
  intro s hr
  have hexec : exec .decideTimerExpiry s
      = .next (if s.path.state = .decide ∧ s.timerExpires s.path.decideTimer = true then s.endDecide else s) := by
    change execDecideTimerExpiry s = _
    rw [execDecideTimerExpiry, whileRunning_of_running hr]
  refine ⟨fun hs d hd hreached => ?_, fun hnot => ?_, ?_⟩
  · rw [hexec, if_pos ⟨hs, timerExpires_iff.2 ⟨d, hd, hreached⟩⟩]
    exact ⟨fun he hh => by rw [endDecide_of_runs he hh], fun h => by rw [endDecide_of_stops h]⟩
  · rw [hexec, if_neg]
    rintro ⟨hs, hexpires⟩
    obtain ⟨d, hd, hreached⟩ := timerExpires_iff.1 hexpires
    rcases hnot with h | h | ⟨x, hx, h⟩
    · exact h hs
    · rw [hd] at h
      cases h
    · rw [hd] at hx
      cases hx
      rw [hreached] at h
      cases h
  · rw [eligible_iff, downstreamRuns_iff]

/-! ## STOP_SETTLE (R113, R130 to R137) -/

theorem windowAfterRemoval_timeBase (w : WindowUnit) (left : List Machine.Record) :
    (windowAfterRemoval w left).timeBase = w.timeBase := by
  unfold windowAfterRemoval
  split <;> rfl

/-- The records the dropping step leaves (R132). -/
def notDropped (s : State) : List Machine.Record :=
  s.tracker.table.filter fun r => !r.dropped

theorem droppingStep_eq (s : State) :
    s.droppingStep = if s.tracker.table = [] then withTable s (notDropped s) else withRemoval s (notDropped s) := by
  unfold State.droppingStep
  by_cases hempty : s.tracker.table = []
  · rcases removeRecords_cases s fun l => l.filter fun r => !r.dropped with ⟨-, hne, -⟩ | ⟨-, h⟩
    · exact absurd hempty hne
    · rw [if_pos hempty, h, judgeGate_updTable, notDropped]
  · rw [if_neg hempty, removeRecords_of_ne_nil hempty, judgeGate_eq]
    rfl

/-- The dropping step changes the table and the gate, and applies a pending speed where no record is left. -/
theorem droppingStep_window (s : State) :
    ∃ w, s.droppingStep = { withTable s (notDropped s) with window := w } ∧ w.timeBase = s.window.timeBase := by
  rw [droppingStep_eq]
  by_cases hempty : s.tracker.table = []
  · exact ⟨s.window, by rw [if_pos hempty]; rfl, rfl⟩
  · exact ⟨windowAfterRemoval s.window (notDropped s), by rw [if_neg hempty]; rfl, windowAfterRemoval_timeBase _ _⟩

/-- The census of the records left is that of the records before, as the dropped ones are passed over. -/
theorem formCensus_droppingStep (s : State) (lockout : Bool) :
    s.droppingStep.formCensus lockout = s.formCensus lockout := by
  obtain ⟨w, h, -⟩ := droppingStep_window s
  have hleft : (notDropped s).filter (fun r => !r.dropped) = notDropped s := by
    rw [notDropped, List.filter_filter]
    simp
  rw [h]
  exact congrArg
    (fun l => ({ header := (s.formCensus lockout).header
                 entries := l.map s.recordEntry ++ s.tracker.runOut.map s.deliveredEntry } : Census)) hleft

/-- Census parts change their queue and the drops alone. -/
theorem foldl_requestCensusPart_aside (parts : List CensusPart) (u : State) :
    ∃ l k, parts.foldl State.requestCensusPart u = { u with link := l, counters := k } := by
  induction parts generalizing u with
  | nil => exact ⟨u.link, u.counters, rfl⟩
  | cons part rest ih =>
    obtain ⟨l, k, h⟩ := ih (u.requestCensusPart part)
    refine ⟨l, k, ?_⟩
    rw [List.foldl_cons, h]
    rcases requestCensusPart_cases u part with ⟨-, hp⟩ | ⟨-, -, hp⟩ | ⟨-, -, -, hp⟩ | ⟨-, -, -, hp⟩ <;> rw [hp] <;> rfl

/-- The HELD entry check (R113). -/
theorem heldCheck_toState (s : State) :
    (s.toState .held).heldCheck
      = if s.front.cover.level = .opened then { s with path := pathIn s .clearing }
        else if s.tracker.table = [] ∧ s.sensorsClear = true then
          { s with
            path :=
              { pathIn s .verify with
                coverSettle := some (s.window.timeBase + BitVec.ofNat 16 s.prof.coverSettle) } }
        else { s with path := pathIn s .held } := by
  have hempty : ((s.toState .held).tracker.table.isEmpty && (s.toState .held).sensorsClear) = true
      ↔ s.tracker.table = [] ∧ s.sensorsClear = true := by
    rw [Bool.and_eq_true, List.isEmpty_iff]
    rfl
  unfold State.heldCheck
  exact if_congr Iff.rfl rfl (if_congr hempty rfl rfl)

/-- Settles O43: the dropping step, the census and the entry check of HELD, one after the other. -/
theorem stopSettles : Obligations.StopSettles := by
  unfold Obligations.StopSettles
  intro s d hr hs hd hreached hnone left entry census base rest
  have hexec : exec .stopSettleExpiry s = .next s.enterHeld := by
    change execStopSettleExpiry s = _
    rw [execStopSettleExpiry, whileRunning_of_running hr, if_pos ⟨hs, timerExpires_iff.2 ⟨d, hd, hreached⟩⟩]
  have hcensus : census = s.formCensus false := by
    refine formCensus_of s false (fun x => ?_) fun x => rfl
    cases hp : x.phase
    · exact congrArg (entry x.tag · x.leadIndex x.trailIndex) (fateOf_inbound hp).symm
    · exact congrArg (entry x.tag · x.leadIndex x.trailIndex) (fateOf_resident hp).symm
    · exact congrArg (entry x.tag · x.leadIndex x.trailIndex) (fateOf_outbound hp).symm
  have hbase : base = s.droppingStep := (droppingStep_eq s).symm
  obtain ⟨w, hw, htime⟩ := droppingStep_window s
  have hquiet : s.droppingStep.census = none := by
    rw [hw]
    exact hnone
  have hrest : s.droppingStep.formAndQueue false = rest := by
    unfold State.formAndQueue
    simp only [hquiet, formCensus_droppingStep, State.queueCensus, rest, hbase, hcensus]
    rfl
  obtain ⟨l, k, haside⟩ := foldl_requestCensusPart_aside (censusParts census) { base with census := some census }
  have hheld : rest
      = { withTable s left with window := w, census := some census, link := l, counters := k } := by
    rw [show rest = { base with census := some census, link := l, counters := k } from haside, hbase, hw]
    rfl
  rw [hexec, enterHeld_eq]
  simp only [hnone]
  rw [hrest, heldCheck_toState, hheld]
  refine congrArg Host.Outcome.next (if_congr Iff.rfl rfl (if_congr Iff.rfl ?_ rfl))
  rw [← htime]
  rfl

end Sys2Proof.Laws
end

section
/-! PROOFS. The commands of the job station: SPEED, QUERY, RESTART, SETUP, and what is refused (2.6, 9.2, 9.6, 10.4,
10.6). -/

namespace Sys2Proof.Laws

open Sys2Proof Sys2Proof.Machine Sys2Proof.Safety

/-- A request for the REPORT queue at a station that sends, as one update (R149). -/
theorem asked_eq {s : State} (hfault : s.strapFault = false) (dest : Nat) (body : Body) :
    asked s dest body
      = { s with
          link :=
            { s.link with
              report := s.link.report ++ if s.link.report.length < 6 then [fresh dest body] else [] }
          counters :=
            { s.counters with
              reportDrop := raised s.counters.reportDrop (if s.link.report.length < 6 then 0 else 1) } } := by
  rcases Nat.lt_or_ge s.link.report.length 6 with hroom | hfull
  · rw [asked_of_room hfault hroom, if_pos hroom, if_pos hroom, raised_zero]
    rfl
  · rw [asked_of_full hfault hfull, if_neg (Nat.not_lt.2 hfull), if_neg (Nat.not_lt.2 hfull), List.append_nil]

/-! ## SPEED (R36) -/

theorem takeSpeed_clamped (s : State) (value : Nat) :
    s.takeSpeed value
      = { s with
          counters :=
            { s.counters with
              clamp := raised s.counters.clamp (if max 50 (min 1600 value) = value then 0 else 1) }
          window :=
            if s.tracker.table = [] then
              { s.window with currentSpeed := some (max 50 (min 1600 value)), pendingSpeed := none }
            else { s.window with pendingSpeed := some (max 50 (min 1600 value)) } } := by
  unfold State.takeSpeed clampTo
  simp only [countIf_eq]
  by_cases hsame : max 50 (min 1600 value) = value <;> cases s.tracker.table <;>
    simp [hsame, State.countBy, State.updCounters, State.updWindow, raiseCounter]

/-- Settles O47: the source check, the state, and the clamped value. -/
theorem speedTaken : Obligations.SpeedTaken := by
  unfold Obligations.SpeedTaken
  intro s source value hr ha
  have hexec : exec (.speed source value) s = .next ((received s).speedReceived source value) :=
    onFrame_of_awaits hr ha
  have htaken : s.path.state ≠ .unconfigured →
      (received s).speedReceived 0 value = (received s).takeSpeed value.toNat := fun h => if_neg h
  rw [hexec]
  refine ⟨fun h => ?_, ?_, ?_⟩
  · by_cases hsource : source = 0
    · subst hsource
      have hs : s.path.state = .unconfigured := h.resolve_left fun hne => hne rfl
      exact congrArg Host.Outcome.next (if_pos hs)
    · exact congrArg Host.Outcome.next (commandFrom_of_ne hsource _ _)
  · rintro rfl hs hempty
    rw [htaken hs, takeSpeed_clamped, if_pos (by exact hempty)]
    rfl
  · rintro rfl hs hne
    rw [htaken hs, takeSpeed_clamped, if_neg (by exact hne)]
    rfl

/-! ## QUERY (R154) -/

/-- Settles O50: the values are those of the state as the QUERY finds it. -/
theorem statusAnswered : Obligations.StatusAnswered := by
  unfold Obligations.StatusAnswered
  intro s hr ha hfault
  have hexec : exec (.queryStatus 0) s = .next (asked (received s) 0 (.status (received s).statusNow)) := by
    rw [← requestReport_eq_asked]
    exact onFrame_of_awaits hr ha
  refine ⟨fun hroom => ?_, fun hfull => ?_⟩
  · rw [hexec, asked_of_room (by exact hfault) (by exact hroom)]
    rfl
  · rw [hexec, asked_of_full (by exact hfault) (by exact hfull)]
    rfl

/-! ## RESTART (R118, R159, R169) -/

theorem restartBlocks_requestHello {s : State} (hfault : s.strapFault = false) :
    s.restartBlocks.requestHello true
      = reported s.restartBlocks 15
          (.hello
            { fresh := true, configured := false, rank := 0, roles := noRoles, sensorCount := 0,
              exitB := false }) := by
  unfold State.requestHello
  rw [requestReport_eq_asked, helloNow_of_unconfigured (s := s.restartBlocks) rfl]
  exact asked_of_room (s := s.restartBlocks) hfault (Nat.zero_lt_succ 5) _ _

/-- Settles O49: the RESTART values of each block, and the one frame queued. -/
theorem restarted : Obligations.Restarted := by
  unfold Obligations.Restarted
  intro s hr ha
  have hexec : exec (.restart 0) s = .next ((received s).restartReceived 0) := onFrame_of_awaits hr ha
  rw [hexec]
  refine ⟨fun hfault => ?_, fun hfault => ?_⟩
  · exact congrArg Host.Outcome.next (if_pos hfault)
  · have hstarts : (received s).restartReceived 0 = (received s).restartBlocks.requestHello true :=
      if_neg (Bool.eq_false_iff.1 hfault)
    rw [hstarts, restartBlocks_requestHello (s := received s) hfault]
    rfl

/-! ## Refused frames (R148, R163, R164) -/

theorem any_take {α : Type} (l : List α) (n : Nat) (p : α → Bool) (d : α) :
    (l.take n).any p = true ↔ ∃ j < l.length, j < n ∧ p (l.getD j d) = true := by
  rw [List.any_eq_true]
  constructor
  · rintro ⟨x, hx, hp⟩
    obtain ⟨j, hj, rfl⟩ := List.mem_take_iff_getElem.1 hx
    exact ⟨j, by omega, by omega, by rw [List.getD_eq_getElem _ _ (by omega)]; exact hp⟩
  · rintro ⟨j, hl, hn, hp⟩
    rw [List.getD_eq_getElem _ _ hl] at hp
    exact ⟨l[j], List.mem_take_iff_getElem.2 ⟨j, by omega, rfl⟩, hp⟩

/-- The positions of the sensors a station has increase from 0 and end at 20000. -/
theorem positionsFault_iff (own : Nat) (f : SetupFrame) :
    setupFaultHolds own f .positions = true
      ↔ (1 < f.n.toNat ∧ (f.pos1.toNat = 0 ∨ 20000 < f.pos1.toNat))
        ∨ ∃ j, 1 ≤ j ∧ j < 3 ∧ j + 1 < f.n.toNat
            ∧ ([f.pos1.toNat, f.pos2.toNat, f.pos3.toNat].getD j 0
                ≤ [f.pos1.toNat, f.pos2.toNat, f.pos3.toNat].getD (j - 1) 0
              ∨ 20000 < [f.pos1.toNat, f.pos2.toNat, f.pos3.toNat].getD j 0) := by
  have hplace : (∃ j, 1 ≤ j ∧ j < 3 ∧ j + 1 < f.n.toNat
      ∧ ([f.pos1.toNat, f.pos2.toNat, f.pos3.toNat].getD j 0
          ≤ [f.pos1.toNat, f.pos2.toNat, f.pos3.toNat].getD (j - 1) 0
        ∨ 20000 < [f.pos1.toNat, f.pos2.toNat, f.pos3.toNat].getD j 0))
      ↔ (2 < f.n.toNat ∧ (f.pos2.toNat ≤ f.pos1.toNat ∨ 20000 < f.pos2.toNat))
        ∨ (3 < f.n.toNat ∧ (f.pos3.toNat ≤ f.pos2.toNat ∨ 20000 < f.pos3.toNat)) := by
    constructor
    · rintro ⟨j, h1, h3, hn, h⟩
      obtain rfl | rfl : j = 1 ∨ j = 2 := by omega
      · exact .inl ⟨hn, h⟩
      · exact .inr ⟨hn, h⟩
    · rintro (⟨hn, h⟩ | ⟨hn, h⟩)
      · exact ⟨1, by omega, by omega, hn, h⟩
      · exact ⟨2, by omega, by omega, hn, h⟩
  rw [hplace]
  simp only [setupFaultHolds, setupPositions]
  generalize f.pos1.toNat = p1, f.pos2.toNat = p2, f.pos3.toNat = p3, f.n.toNat = n
  match n with
  | 0 | 1 => simp [increasingFrom]
  | 2 => simp [increasingFrom, or_comm]
  | 3 => simp [increasingFrom]; omega
  | m + 4 => simp [increasingFrom]; omega

theorem neighbourFault_iff (own : Nat) (f : SetupFrame) :
    setupFaultHolds own f .neighbour = true ↔ ∃ x ∈ [f.upA, f.upB, f.exitA, f.exitB], x = 15 ∨ x.toNat = own := by
  have hnumber : ∀ x : BitVec 4, (x.toNat == 15 || x.toNat == own) = true ↔ x = 15 ∨ x.toNat = own := fun x => by
    rw [Bool.or_eq_true, beq_iff_eq, beq_iff_eq, ← BitVec.toNat_inj]
    rfl
  simp only [setupFaultHolds, List.any_eq_true, hnumber]

theorem modeFault_iff (own : Nat) (f : SetupFrame) :
    setupFaultHolds own f .undefinedMode = true
      ↔ 1 < f.anchoring.toNat ∨ 1 < f.escalation.toNat ∨ 2 < f.report.toNat
        ∨ ∃ j < 4, j < f.n.toNat ∧ 1 < ([f.mode0, f.mode1, f.mode2, f.mode3].getD j 0).toNat := by
  simp only [setupFaultHolds, setupModes, Bool.or_eq_true, any_take _ _ _ (0 : BitVec 2), decide_eq_true_eq, or_assoc]
  rfl

/-- The structural faults of R164, one by one. -/
theorem setupFaulty_iff (own : Nat) (f : SetupFrame) :
    setupFaulty own f = true
      ↔ (f.n.toNat < 1 ∨ 4 < f.n.toNat)
        ∨ setupFaultHolds own f .positions = true
        ∨ (f.rank.toNat < 1 ∨ 14 < f.rank.toNat)
        ∨ setupFaultHolds own f .neighbour = true
        ∨ (f.exitB ≠ 0 ∧ f.divertPresent = false)
        ∨ (f.roles.feed = true ∧ f.bridgeA = 0)
        ∨ (f.roles.delivery = true ∧ f.exitA ≠ 0)
        ∨ setupFaultHolds own f .undefinedMode = true := by
  have hcount : setupFaultHolds own f .sensorCount = true ↔ f.n.toNat < 1 ∨ 4 < f.n.toNat := by
    simp [setupFaultHolds]
  have hrank : setupFaultHolds own f .rank = true ↔ f.rank.toNat < 1 ∨ 14 < f.rank.toNat := by
    simp [setupFaultHolds]
  have hexitB : setupFaultHolds own f .exitBWithoutDivert = true ↔ f.exitB ≠ 0 ∧ f.divertPresent = false := by
    simp [setupFaultHolds]
  have hfeed : setupFaultHolds own f .feedWithoutBridgeA = true ↔ f.roles.feed = true ∧ f.bridgeA = 0 := by
    simp [setupFaultHolds]
  have hdelivery : setupFaultHolds own f .deliveryWithExitA = true ↔ f.roles.delivery = true ∧ f.exitA ≠ 0 := by
    simp [setupFaultHolds]
  simp only [setupFaulty, setupFaults, List.any_cons, List.any_nil, Bool.or_false, Bool.or_eq_true, hcount, hrank,
    hexitB, hfeed, hdelivery]

/-- A SETUP from the job station that is refused. -/
theorem setupReceived_of_refused {s : State} {f : SetupFrame} (h : s.refusesSetup f = true) :
    s.setupReceived 0 f = s.count .refused :=
  if_pos h

theorem refusesSetup_iff {s : State} {f : SetupFrame} :
    s.refusesSetup f = true
      ↔ s.stationNumber = none
        ∨ ∃ own, s.stationNumber = some own ∧ (s.path.state ≠ .unconfigured ∨ setupFaulty own f = true) := by
  unfold State.refusesSetup
  cases s.stationNumber <;> simp

section OtherSource

variable {source : Byte} (h : source ≠ 0) (s : State)

include h

theorem setupReceived_of_ne (f : SetupFrame) : s.setupReceived source f = s.count .refused :=
  commandFrom_of_ne h s _

theorem speedReceived_of_ne (value : BitVec 16) : s.speedReceived source value = s.count .refused :=
  commandFrom_of_ne h s _

theorem resumeReceived_of_ne (epoch : Byte) : s.resumeReceived source epoch = s.count .refused :=
  commandFrom_of_ne h s _

theorem restartReceived_of_ne : s.restartReceived source = s.count .refused :=
  commandFrom_of_ne h s _

theorem queryStatusReceived_of_ne : s.queryStatusReceived source = s.count .refused :=
  commandFrom_of_ne h s _

theorem queryCensusReceived_of_ne : s.queryCensusReceived source = s.count .refused :=
  commandFrom_of_ne h s _

end OtherSource

/-- Settles O56: the source check of each command, and the conditions of a SETUP. -/
theorem refusedAndCounted : Obligations.RefusedAndCounted := by
  unfold Obligations.RefusedAndCounted
  intro s source hr
  refine ⟨fun hsource => ?_, fun type payload _ ha => onFrame_of_awaits hr ha, fun f ha => ?_⟩
  · have hchecked : ∀ {i : Instr}, s.frameEnded.handToOwner i = (received s).count .refused → Awaits s i →
        onFrame i s = .next (refusedOnce s) := by
      intro i hi ha
      rw [onFrame_of_awaits hr ha, hi]
      rfl
    exact ⟨fun f => hchecked (setupReceived_of_ne hsource _ f),
      fun tag => hchecked (launchReceived_of_source_ne hsource tag),
      fun v => hchecked (speedReceived_of_ne hsource _ v),
      fun e => hchecked (resumeReceived_of_ne hsource _ e), hchecked (restartReceived_of_ne hsource _),
      hchecked (queryStatusReceived_of_ne hsource _), hchecked (queryCensusReceived_of_ne hsource _)⟩
  · have hrefused : s.refusesSetup f = true → exec (.setup 0 f) s = .next (refusedOnce s) := fun h =>
      (onFrame_of_awaits hr ha).trans (congrArg Host.Outcome.next (setupReceived_of_refused (s := received s) h))
    refine ⟨fun hfault => ?_, fun hs => ?_, fun own hown hs => ?_⟩
    · exact hrefused (refusesSetup_iff.2 (.inl (stationNumber_of_strapFault hfault)))
    · refine hrefused (refusesSetup_iff.2 ?_)
      cases hown : s.stationNumber with
      | none => exact .inl rfl
      | some own => exact .inr ⟨own, rfl, .inl hs⟩
    · have hfaults := setupFaulty_iff own f
      rw [positionsFault_iff, neighbourFault_iff, modeFault_iff,
        or_assoc (a := 1 < f.n.toNat ∧ (f.pos1.toNat = 0 ∨ 20000 < f.pos1.toNat))] at hfaults
      exact ⟨fun h => hrefused (refusesSetup_iff.2 (.inr ⟨own, hown, .inr (hfaults.2 h)⟩)), hfaults⟩

end Sys2Proof.Laws
end

section
/-! PROOFS. An accepted SETUP (6.4, 10.4, 10.5). -/

namespace Sys2Proof.Laws

open Sys2Proof Sys2Proof.Machine Sys2Proof.Safety

/-! ## The profile a SETUP gives (R165, R166) -/

/-- The fields clamped are counted in any order. -/
theorem setupClamps_eq (f : SetupFrame) :
    setupClamps f
      = [(profileOf f).speed != f.speed.toNat, (profileOf f).tolPct != f.tolPct.toNat,
          (profileOf f).slack != f.slack.toNat, (profileOf f).lenTol != f.lenTol.toNat,
          (profileOf f).linkAllow != f.linkAllow.toNat, (profileOf f).pickDelay != f.pickDelay.toNat,
          (profileOf f).stopSettle != f.stopSettle.toNat, (profileOf f).coverSettle != f.coverSettle.toNat,
          (profileOf f).filter != f.filter.toNat].count true := by
  simp only [setupClamps, profileOf, List.countP_cons, List.countP_nil, List.count_cons, List.count_nil, beq_true]
  omega

theorem clampTo_zero (hi v : Nat) : clampTo 0 hi v = min hi v :=
  Nat.zero_max _

theorem position_profileOf (f : SetupFrame) {k : Nat} (hk : k + 1 < f.n.toNat) :
    (profileOf f).position (k + 1) = [f.pos1.toNat, f.pos2.toNat, f.pos3.toNat].getD k 0 := by
  have hplace : k < f.n.toNat - 1 := by omega
  simp only [Profile.position, profileOf, setupPositions]
  rw [List.getD_cons_succ, List.getD_eq_getElem?_getD, List.getElem?_take_of_lt hplace, ← List.getD_eq_getElem?_getD]

theorem inputModeOf_profileOf (f : SetupFrame) {k : Nat} (hk : k < 4) :
    inputModeOf (profileOf f) k
      = if k < (profileOf f).n then
          (if [f.mode0, f.mode1, f.mode2, f.mode3].getD k 0 = 1 then .raw else .filtered)
        else .followed := by
  unfold inputModeOf
  by_cases hn : k < (profileOf f).n
  · have hfour : k < [f.mode0, f.mode1, f.mode2, f.mode3].length := hk
    have hmode : (profileOf f).modes[k]? = some (filterModeOf ([f.mode0, f.mode1, f.mode2, f.mode3].getD k 0)) := by
      simp only [profileOf, setupModes, List.getElem?_map]
      rw [List.getElem?_take_of_lt (by exact hn), List.getElem?_eq_getElem hfour, List.getD_eq_getElem _ _ hfour]
      rfl
    rw [if_pos hn, if_pos hn, hmode]
    by_cases hraw : [f.mode0, f.mode1, f.mode2, f.mode3].getD k 0 = 1
    · rw [if_pos hraw, hraw]
      rfl
    · have hfiltered : filterModeOf ([f.mode0, f.mode1, f.mode2, f.mode3].getD k 0) = .filtered :=
        if_neg (by simpa using hraw)
      rw [if_neg hraw, hfiltered]
  · rw [if_neg hn, if_neg hn]

/-! ## LINKING entered (R102) -/

/-- LINKING entry is STANDBY entry where the conditions hold. -/
theorem enterLinking_eq (s : State) :
    s.enterLinking
      = { s with
          path := pathIn s (if s.readyForStandby = true then .standby else .linking)
          tracker := { s.tracker with runOut := if s.readyForStandby = true then [] else s.tracker.runOut } } := by
  have hsame : (s.toState .linking).readyForStandby = s.readyForStandby := rfl
  unfold State.enterLinking
  cases hready : s.readyForStandby
  · rw [judgeLinking_of_not_ready (hsame.trans hready)]
    rfl
  · rw [judgeLinking_of_ready (hsame.trans hready)]
    rfl

/-- A SETUP from the job station that is accepted. -/
theorem setupReceived_of_accepted {s : State} {f : SetupFrame} (h : s.refusesSetup f = false) :
    s.setupReceived 0 f = ((stored s f).requestHello false).enterLinking :=
  if_neg (Bool.eq_false_iff.1 h)

/-- The profile is stored and its HELLO asked for. -/
def greeted (s : State) (f : SetupFrame) : State :=
  asked (stored s f) 15 (.hello ((stored s f).helloNow false))

theorem stableLevel_eq (s : State) (k : Nat) :
    s.stableLevel k = if h : k < 4 then s.front.sensors[k].stable else Sensor.blank.stable := by
  unfold State.stableLevel
  by_cases h : k < 4
  · rw [dif_pos h, List.getD_eq_getElem _ _ (by simpa using h), Vector.getElem_toList]
  · rw [dif_neg h, List.getD_eq_default _ _ (by simpa using h)]

/-- The filter modes are taken, and the levels stay (R41). -/
theorem withModes_sensor (e : FrontEnd) (p : Profile) (k : Nat) (h : k < 4) :
    (e.withModes p).sensors[k] = { e.sensors[k] with mode := inputModeOf p k, candidate := none } := by
  simp [FrontEnd.withModes]

theorem greeted_setup (s : State) (f : SetupFrame) :
    (greeted s f).setup = { s.setup with profile := some (profileOf f) } :=
  asked_setup _ _ _

theorem greeted_front (s : State) (f : SetupFrame) : (greeted s f).front = s.front.withModes (profileOf f) :=
  asked_front _ _ _

theorem stableLevel_greeted (s : State) (f : SetupFrame) (k : Nat) : (greeted s f).stableLevel k = s.stableLevel k := by
  rw [stableLevel_eq, stableLevel_eq, greeted_front]
  by_cases h : k < 4
  · rw [dif_pos h, dif_pos h, withModes_sensor]
  · rw [dif_neg h, dif_neg h]

/-- The three conditions, judged with the profile that came (R102). -/
theorem readyForStandby_greeted (s : State) (f : SetupFrame) :
    (greeted s f).readyForStandby = true
      ↔ (∀ m ∈ [(profileOf f).upA, (profileOf f).upB, (profileOf f).exitA, (profileOf f).exitB],
            m ≠ 0 → (s.rosterEntry m).configured = true)
          ∧ s.front.cover.level = .closed ∧ ∀ k < (profileOf f).n, s.stableLevel k = .clear := by
  have hprof : (greeted s f).prof = profileOf f := by
    rw [State.prof, greeted_setup]
    rfl
  have hroster : ∀ m, (greeted s f).rosterEntry m = s.rosterEntry m := fun m => by
    rw [State.rosterEntry, greeted_setup]
    rfl
  have hcover : (greeted s f).front.cover = s.front.cover := by
    rw [greeted_front]
    rfl
  rw [readyForStandby_iff, neighboursKnown_iff, sensorsClear_iff, hprof, hcover]
  simp only [hroster, stableLevel_greeted, Profile.neighbours, List.mem_filter, decide_eq_true_eq, and_imp]

/-- Settles O45: what is stored, what is asked for and what is entered touch different items. -/
theorem setupAccepted : Obligations.SetupAccepted := by
  unfold Obligations.SetupAccepted
  intro s f own hr ha hown hs hfree
  have hfault : s.strapFault = false := Bool.eq_false_iff.2 fun h => by
    rw [stationNumber_of_strapFault h] at hown
    cases hown
  have hrefuses : (received s).refusesSetup f = false := Bool.eq_false_iff.2 fun h => by
    rcases refusesSetup_iff.1 h with hnone | ⟨own', hown', hnot⟩
    · exact absurd (hown.symm.trans hnone) (by simp)
    · obtain rfl : own = own' := Option.some.inj (hown.symm.trans hown')
      rcases hnot with hne | hfaulty
      · exact hne hs
      · exact Bool.false_ne_true (hfree.symm.trans hfaulty)
  have hexec : exec (.setup 0 f) s = .next (greeted (received s) f).enterLinking := by
    have h := setupReceived_of_accepted hrefuses
    rw [State.requestHello, requestReport_eq_asked] at h
    exact (onFrame_of_awaits hr ha).trans (congrArg Host.Outcome.next h)
  have hready := readyForStandby_greeted (received s) f
  refine ⟨_, profileOf f, hexec, ?_⟩
  rw [enterLinking_eq]
  generalize (greeted (received s) f).readyForStandby = judged at hready
  rw [greeted, asked_eq (s := stored (received s) f) hfault]
  refine ⟨rfl, rfl, rfl, rfl, rfl, rfl, rfl, rfl, rfl, fun h => ?_, rfl, fun h => ?_, rfl, rfl,
    fun h => position_profileOf f h, fun h => position_profileOf f h, fun h => position_profileOf f h,
    ?_, ?_, ?_, rfl, clampTo_zero _ _, clampTo_zero _ _, clampTo_zero _ _, clampTo_zero _ _,
    clampTo_zero _ _, rfl, rfl, rfl, ?_, rfl, fun k => ?_, rfl, rfl, fun ready hiff => ?_, rfl, rfl, rfl, hr⟩
  · exact if_neg (by simpa using h)
  · exact if_neg (by simpa using h)
  · exact if_congr beq_iff_eq rfl rfl
  · exact if_congr beq_iff_eq rfl rfl
  · exact if_congr beq_iff_eq rfl (if_congr beq_iff_eq rfl rfl)
  · rw [← setupClamps_eq]
    rfl
  · rw [← inputModeOf_profileOf f k.isLt]
    have hsensor : ∀ x : Sensor,
        x = { s.front.sensors[k] with mode := inputModeOf (profileOf f) k, candidate := none } →
          x.pin = s.front.sensors[k].pin ∧ x.stable = s.front.sensors[k].stable ∧ x.candidate = none
            ∧ x.mode = inputModeOf (profileOf f) k := by
      rintro x rfl
      exact ⟨rfl, rfl, rfl, rfl⟩
    exact hsensor _ (withModes_sensor s.front (profileOf f) k k.isLt)
  · obtain rfl : judged = ready := Bool.eq_iff_iff.2 (hready.trans hiff.symm)
    refine ⟨?_, ?_⟩
    · rintro rfl
      exact ⟨rfl, rfl⟩
    · rintro rfl
      exact ⟨rfl, rfl⟩

end Sys2Proof.Laws
end

section
/-! PROOFS. The frames of other stations: HELLO, HANDOFF, TAKEN and JAM (4.3, 4.4, 5.4, 5.5, 10.3). -/

namespace Sys2Proof.Laws

open Sys2Proof Sys2Proof.Machine Sys2Proof.Safety

/-! ## HELLO (R161, R162) -/

section Hello

variable {s : State} {n : Nat} {f : HelloFrame}

theorem waitingHello_iff (e : Entry) :
    e.waitingHello = true ↔ e.started = false ∧ ∃ h, e.body = .hello h ∧ h.fresh = false := by
  unfold Entry.waitingHello
  cases e.body with
  | hello c => simp [and_comm]
  | _ => simp

/-- The roster entry replaced, and the reply asked for (R162, steps 1 and 2). -/
def heard (s : State) (n : Nat) (f : HelloFrame) : State :=
  { s with setup := { s.setup with roster := s.setup.roster.setIfInBounds (n - 1) (entryOfHello f) } }

def replied (s : State) (n : Nat) (f : HelloFrame) : State :=
  if f.fresh = true ∧ s.link.report.any Entry.waitingHello = false then
    asked (heard s n f) 15
      (.hello
        { fresh := false, configured := s.setup.profile.isSome, rank := s.prof.rank, roles := s.prof.roles,
          sensorCount := s.prof.n, exitB := s.prof.exitB != 0 })
  else heard s n f

theorem replyHello_eq (s : State) (n : Nat) (f : HelloFrame) :
    (s.setRosterEntry n (entryOfHello f)).replyHello f = replied s n f := by
  have hset : s.setRosterEntry n (entryOfHello f) = heard s n f := rfl
  have hreply : (f.fresh && !(heard s n f).link.report.any Entry.waitingHello) = true
      ↔ f.fresh = true ∧ s.link.report.any Entry.waitingHello = false := by
    rw [Bool.and_eq_true, Bool.not_eq_true']
    rfl
  rw [hset, State.replyHello, State.requestHello, requestReport_eq_asked]
  exact if_congr hreply rfl rfl

theorem replied_setup (s : State) (n : Nat) (f : HelloFrame) : (replied s n f).setup = (heard s n f).setup := by
  unfold replied
  split
  · exact asked_setup _ _ _
  · rfl

theorem replied_front (s : State) (n : Nat) (f : HelloFrame) : (replied s n f).front = s.front := by
  unfold replied
  split
  · exact asked_front _ _ _
  · rfl

theorem asked_path (s : State) (dest : Nat) (body : Body) : (asked s dest body).path = s.path := by
  rw [← requestReport_eq_asked, State.requestReport_path]

theorem asked_tracker (s : State) (dest : Nat) (body : Body) : (asked s dest body).tracker = s.tracker := by
  rw [← requestReport_eq_asked, State.requestReport_tracker]

theorem replied_path (s : State) (n : Nat) (f : HelloFrame) : (replied s n f).path = s.path := by
  unfold replied
  split
  · exact asked_path _ _ _
  · rfl

theorem replied_tracker (s : State) (n : Nat) (f : HelloFrame) : (replied s n f).tracker = s.tracker := by
  unfold replied
  split
  · exact asked_tracker _ _ _
  · rfl

theorem pathIn_replied (s : State) (n : Nat) (f : HelloFrame) (st : PathState) :
    pathIn (replied s n f) st = pathIn s st :=
  pathIn_of_front (replied_path s n f) (replied_front s n f) st

/-- The three conditions are read from the setup and the front end alone (R102). -/
theorem readyForStandby_of_setup {s t : State} (hsetup : t.setup = s.setup) (hfront : t.front = s.front) :
    t.readyForStandby = s.readyForStandby := by
  have hclear : t.sensorsClear = s.sensorsClear := by
    simp only [State.sensorsClear, State.stableLevel, State.prof, hsetup, hfront]
  rw [State.readyForStandby, neighboursKnown_of_setup hsetup, hfront, hclear]
  rfl

theorem isNeighbour_iff (s : State) (h1 : 1 ≤ n) :
    s.isNeighbour n = true ↔ n = s.prof.upA ∨ n = s.prof.upB ∨ n = s.prof.exitA ∨ n = s.prof.exitB := by
  have hne : n ≠ 0 := by omega
  simp [State.isNeighbour, Profile.neighbours, hne]

theorem replied_isNeighbour (s : State) (f : HelloFrame) (h1 : 1 ≤ n) :
    (replied s n f).isNeighbour n = true
      ↔ n = s.prof.upA ∨ n = s.prof.upB ∨ n = s.prof.exitA ∨ n = s.prof.exitB := by
  have hprof : (replied s n f).prof = s.prof := by
    rw [State.prof, replied_setup]
    rfl
  rw [isNeighbour_iff _ h1, hprof]

theorem rosterEntry_heard (s : State) (f : HelloFrame) (h14 : n ≤ 14) (h1 : 1 ≤ n) :
    (heard s n f).rosterEntry n = entryOfHello f := by
  have hlt : n - 1 < 14 := by omega
  rw [State.rosterEntry, heard, List.getD_eq_getElem _ _ (by simpa using hlt), Vector.getElem_toList,
    Vector.getElem_setIfInBounds_self]

theorem peerJam_of_other {t : State} (h : ¬(t.path.state = .run ∧ f.fresh = true ∧ t.isNeighbour n = true)) :
    t.peerJam n f = t := by
  refine if_neg fun hall => h ?_
  simp only [Bool.and_eq_true, beq_iff_eq] at hall
  exact ⟨hall.2, hall.1.1, hall.1.2⟩

theorem peerJam_of_run {t : State} (hs : t.path.state = .run) (hfresh : f.fresh = true)
    (hneighbour : t.isNeighbour n = true) :
    t.peerJam n f = t.raiseJams [{ kind := .peer, sensor := none, sheetId := none }] :=
  if_pos (by simp [hs, hfresh, hneighbour])

theorem rosterChanged_of_other {t : State} {old new : RosterEntry} (hs : t.path.state ≠ .standby)
    (hl : t.path.state ≠ .linking) : t.rosterChanged n old new = t := by
  unfold State.rosterChanged
  split
  next h => exact absurd h hs
  next h => exact absurd h hl
  all_goals rfl

theorem rosterChanged_of_standby {t : State} {old new : RosterEntry} (hs : t.path.state = .standby) :
    t.rosterChanged n old new
      = if t.isNeighbour n = true ∧ old.configured = true ∧ new.configured = false then t.enterLinking else t := by
  simp only [State.rosterChanged, hs]
  exact if_congr (by simp [and_assoc]) rfl rfl

theorem rosterChanged_of_linking {t : State} {old new : RosterEntry} (hs : t.path.state = .linking) :
    t.rosterChanged n old new = if old = new then t else t.judgeLinking := by
  simp only [State.rosterChanged, hs]

/-- An own jam in RUN leaves STOPPING. -/
theorem raiseJams_run_state {t : State} {r : JamReport} (hs : t.path.state = .run) :
    (t.raiseJams [r]).path.state = .stopping := by
  rw [raiseJams_one, haltRequest_of_run (by rw [recordOwn_path, hs])]
  rfl

end Hello

/-- Settles O52: the reply, the jam and the change of state, by the state the HELLO finds. -/
theorem hellosTaken : Obligations.HellosTaken := by
  unfold Obligations.HellosTaken
  intro s source f hr ha
  have hexec : exec (.hello source f) s = .next ((received s).helloReceived source f) := onFrame_of_awaits hr ha
  refine ⟨fun hown => ?_, fun hother hbad => ?_, fun hother h1 h14 => ?_, waitingHello_iff⟩
  · rw [hexec]
    exact congrArg Host.Outcome.next (if_pos hown)
  · rw [hexec, State.helloReceived, if_neg (by exact hother), if_neg (by omega)]
    rfl
  · have htaken : exec (.hello source f) s
        = .next (((replied (received s) source.toNat f).peerJam source.toNat f).rosterChanged source.toNat
            (s.rosterEntry source.toNat) (entryOfHello f)) := by
      rw [hexec, State.helloReceived, if_neg (by exact hother), if_pos ⟨h1, h14⟩, State.takeHello, replyHello_eq]
      rfl
    have hneighbour := replied_isNeighbour (received s) f h1
    have hpath := congrArg PathController.state (replied_path (received s) source.toNat f)
    refine ⟨fun hs => ⟨?_, fun hnot => ?_⟩, fun hs => ⟨?_, fun hkept => ?_⟩, fun hs => ⟨?_, fun hnot => ?_⟩,
      fun hrun hstandby hlinking => ?_⟩
    · rintro ⟨hfresh, hn⟩
      have hjam := raiseJams_run_state (r := { kind := .peer, sensor := none, sheetId := none }) (hpath.trans hs)
      rw [htaken, peerJam_of_run (hpath.trans hs) hfresh (hneighbour.2 hn),
        rosterChanged_of_other (by rw [hjam]; decide) (by rw [hjam]; decide)]
      rfl
    · rw [htaken, peerJam_of_other fun h => hnot ⟨h.2.1, hneighbour.1 h.2.2⟩,
        rosterChanged_of_other (by rw [hpath.trans hs]; decide) (by rw [hpath.trans hs]; decide)]
      rfl
    · rintro ⟨hn, hold, hnew⟩
      have hunknown : (replied (received s) source.toNat f).neighboursKnown = false := by
        rw [neighboursKnown_of_setup (replied_setup _ _ _), ← Bool.not_eq_true, neighboursKnown_iff]
        intro hall
        have hmem : source.toNat ∈ (heard (received s) source.toNat f).prof.neighbours :=
          List.contains_iff_mem.1 ((isNeighbour_iff (heard (received s) source.toNat f) h1).2 hn)
        have hconfigured := hall _ hmem
        rw [rosterEntry_heard _ f h14 h1] at hconfigured
        exact Bool.false_ne_true (hnew.symm.trans hconfigured)
      rw [htaken, peerJam_of_other (by rw [hpath.trans hs]; simp), rosterChanged_of_standby (hpath.trans hs),
        if_pos ⟨hneighbour.2 hn, hold, hnew⟩, enterLinking_of_unknown hunknown]
      refine congrArg Host.Outcome.next ?_
      rw [show pathIn s .linking = pathIn (received s) .linking from rfl,
        ← pathIn_replied (received s) source.toNat f .linking]
      rfl
    · rw [htaken, peerJam_of_other (by rw [hpath.trans hs]; simp), rosterChanged_of_standby (hpath.trans hs),
        if_neg fun h => hkept ⟨hneighbour.1 h.1, h.2⟩]
      rfl
    · rintro ⟨hready, hchanged⟩
      have hready' : (replied (received s) source.toNat f).readyForStandby = true := by
        rw [readyForStandby_of_setup (replied_setup _ _ _) (replied_front _ _ _)]
        exact hready
      rw [htaken, peerJam_of_other (by rw [hpath.trans hs]; simp), rosterChanged_of_linking (hpath.trans hs),
        if_neg (by exact hchanged), judgeLinking_of_ready hready', pathIn_replied, replied_tracker]
      rfl
    · rw [htaken, peerJam_of_other (by rw [hpath.trans hs]; simp), rosterChanged_of_linking (hpath.trans hs)]
      by_cases hsame : s.rosterEntry source.toNat = entryOfHello f
      · rw [if_pos hsame]
        rfl
      · have hready : (replied (received s) source.toNat f).readyForStandby = false := by
          rw [readyForStandby_of_setup (replied_setup _ _ _) (replied_front _ _ _)]
          exact Bool.eq_false_iff.2 fun h => hnot ⟨h, hsame⟩
        rw [if_neg hsame, judgeLinking_of_not_ready hready]
        rfl
    · rw [htaken, peerJam_of_other fun h => hrun (hpath.symm.trans h.1),
        rosterChanged_of_other (fun h => hstandby (hpath.symm.trans h)) fun h => hlinking (hpath.symm.trans h)]
      rfl

/-! ## HANDOFF (R68 to R70) -/

section Handoff

variable {s : State} {tag : WireTag} {n : Nat}

theorem upstreamOf_none {p : Profile} (h : n = 0 ∨ (n ≠ p.upA ∧ n ≠ p.upB)) : upstreamOf p n = none := by
  unfold upstreamOf
  rcases h with h | ⟨hA, hB⟩
  · rw [if_pos h]
  · rw [if_neg hA, if_neg hB, ite_self]

theorem upstreamOf_upA {p : Profile} (h0 : n ≠ 0) (h : n = p.upA) : upstreamOf p n = some .upA := by
  rw [upstreamOf, if_neg h0, if_pos h]

theorem upstreamOf_upB {p : Profile} (h0 : n ≠ 0) (hA : n ≠ p.upA) (h : n = p.upB) : upstreamOf p n = some .upB := by
  rw [upstreamOf, if_neg h0, if_neg hA, if_pos h]

theorem armsEntry_eq (st : PathState) : armsEntry st = decide (st = .run ∨ st = .decide) := by
  cases st <;> rfl

theorem takeHandoff_creates (hroom : s.tracker.table.length < 8) (hnew : ¬s.holdsSheet tag.sheetId = true)
    (up : Source) (age : BitVec 16) :
    s.takeHandoff tag up age
      = { withTable s
            (insertInbound
              (announced s tag up (s.prof.entryDistance up)
                (s.window.timeBase - BitVec.ofNat 16 (min 30000 age.toNat) - 2)
                (decide (s.path.state = .run ∨ s.path.state = .decide)))
              s.tracker.table) with
          counters :=
            { s.counters with
              clamp := raised s.counters.clamp (creationClamps s tag (s.prof.entryDistance up)) } } := by
  have hfull : ¬s.tableFull = true := by simp [tableFull_of_room hroom]
  rw [State.takeHandoff, if_neg hfull, if_neg hnew, createRecord_eq, armsEntry_eq]
  rfl

theorem takeHandoff_full (h : 8 ≤ s.tracker.table.length) (up : Source) (age : BitVec 16) :
    s.takeHandoff tag up age
      = s.raiseJams [{ kind := .tableFull, sensor := none, sheetId := some tag.sheetId }] :=
  if_pos ((tableFull_iff s).2 h)

theorem takeHandoff_duplicate (hroom : s.tracker.table.length < 8) (hheld : s.holdsSheet tag.sheetId = true)
    (up : Source) (age : BitVec 16) :
    s.takeHandoff tag up age
      = s.raiseJams [{ kind := .duplicate, sensor := none, sheetId := some tag.sheetId }] := by
  have hfull : ¬s.tableFull = true := by simp [tableFull_of_room hroom]
  rw [State.takeHandoff, if_neg hfull, if_pos hheld]

end Handoff

/-- Settles O53: the upstream the source names, then the table. -/
theorem handoffsTaken : Obligations.HandoffsTaken := by
  unfold Obligations.HandoffsTaken
  intro s source tag age hr ha
  have hexec : exec (.handoff source tag age) s = .next ((received s).handoffReceived source tag age) :=
    onFrame_of_awaits hr ha
  have htaken : ∀ up, matchingState s.path.state = true → upstreamOf s.prof source.toNat = some up →
      exec (.handoff source tag age) s = .next ((received s).takeHandoff tag up age) := fun up hs hup => by
    have hup' : upstreamOf (received s).prof source.toNat = some up := hup
    rw [hexec, State.handoffReceived]
    simp only [hup']
    exact congrArg Host.Outcome.next (if_pos hs)
  have hheld := holdsSheet_iff (received s) tag.sheetId
  have hnamed : source.toNat ≠ 0 → source.toNat = s.prof.upA ∨ source.toNat = s.prof.upB →
      ∃ up, upstreamOf s.prof source.toNat = some up := fun h0 h => by
    by_cases hA : source.toNat = s.prof.upA
    · exact ⟨_, upstreamOf_upA h0 hA⟩
    · exact ⟨_, upstreamOf_upB h0 hA (h.resolve_left hA)⟩
  refine ⟨fun h => ?_, fun hs hroom hnew h0 => ⟨fun hA => ?_, fun hA hB => ?_⟩,
    fun hs h0 hup => ⟨fun hfull => ?_, fun hroom hsheet => ?_⟩⟩
  · rw [hexec, State.handoffReceived]
    cases hup : upstreamOf (received s).prof source.toNat with
    | none => rfl
    | some up =>
      have hstate : matchingState s.path.state = false := by
        rcases h with h | h | h
        · rw [upstreamOf_none (.inl h)] at hup
          cases hup
        · rw [upstreamOf_none (p := (received s).prof) (.inr h)] at hup
          cases hup
        · exact h
      exact congrArg Host.Outcome.next (if_neg (Bool.eq_false_iff.1 hstate))
  · rw [htaken _ hs (upstreamOf_upA h0 hA),
      takeHandoff_creates (s := received s) hroom (mt hheld.1 hnew)]
    rfl
  · rw [htaken _ hs (upstreamOf_upB h0 hA hB),
      takeHandoff_creates (s := received s) hroom (mt hheld.1 hnew)]
    rfl
  · obtain ⟨up, hup⟩ := hnamed h0 hup
    rw [htaken up hs hup, takeHandoff_full (s := received s) hfull]
  · obtain ⟨up, hup⟩ := hnamed h0 hup
    rw [htaken up hs hup, takeHandoff_duplicate (s := received s) hroom (hheld.2 hsheet)]

/-! ## TAKEN (R72, R73) -/

theorem takenChoice_iff (id : SheetId) (r : Machine.Record) :
    takenChoice id r = true
      ↔ r.tag.sheetId = id ∧ r.phase = .outbound ∧ r.outputBound = some false ∧ r.taken = some false := by
  simp [takenChoice, Record.isSheet, and_assoc]

/-- Settles O54: the record confirmed, if any, and its removal where its trailing edge has cleared. -/
theorem takensTaken : Obligations.TakensTaken := by
  unfold Obligations.TakensTaken
  intro s source id hr ha
  have hexec : exec (.taken source id) s = .next ((received s).takenReceived source id) := onFrame_of_awaits hr ha
  refine ⟨fun h => ?_, fun pre post r hs hsource htable hpre hopen => ?_⟩
  · rw [hexec, State.takenReceived]
    cases hfind : (received s).tracker.table.find? (takenChoice id) with
    | none => rfl
    | some r =>
      have hfails : ¬(matchingState (received s).path.state && source.toNat == (received s).prof.exitStation r.exit
          && source != 0) = true := by
        simp only [Bool.and_eq_true, bne_iff_ne]
        rintro ⟨⟨hs, -⟩, hsource⟩
        rcases h with h | h | h
        · exact Bool.false_ne_true (h.symm.trans hs)
        · exact hsource h
        · exact h r (List.mem_of_find?_eq_some hfind) ((takenChoice_iff id r).1 (List.find?_some hfind))
      exact congrArg Host.Outcome.next (if_neg hfails)
  · have hskips : ∀ x ∈ pre, takenChoice id x = false := fun x hx =>
      Bool.eq_false_iff.2 fun hc => hpre x hx ((takenChoice_iff id x).1 hc)
    have hchosen : takenChoice id r = true := (takenChoice_iff id r).2 hopen
    have hfind : (received s).tracker.table.find? (takenChoice id) = some r := by
      rw [show (received s).tracker.table = pre ++ r :: post from htable]
      exact find?_middle hskips hchosen
    refine ⟨fun hother => ?_, fun hfrom => ?_⟩
    · rw [hexec, State.takenReceived]
      simp only [hfind]
      refine congrArg Host.Outcome.next (if_neg ?_)
      simp only [Bool.and_eq_true, beq_iff_eq]
      exact fun h => hother h.1.2
    · have htaken : exec (.taken source id) s = .next ((received s).acceptTaken (takenChoice id) r) := by
        rw [hexec, State.takenReceived]
        simp only [hfind]
        refine congrArg Host.Outcome.next (if_pos ?_)
        simp only [Bool.and_eq_true, beq_iff_eq, bne_iff_ne]
        exact ⟨⟨hs, hfrom⟩, hsource⟩
      rw [htaken]
      refine ⟨fun hpart => ?_, fun hcleared => ?_⟩
      · have hupdate : updateFirst (takenChoice id) (fun x => { x with taken := some true }) s.tracker.table
            = pre ++ { r with taken := some true } :: post := by rw [htable, updateFirst_middle hskips hchosen]
        rw [State.acceptTaken, if_neg (by exact hpart), ← hupdate]
        rfl
      · have hpassed := judgeGate_pass (s := received s) htable hskips hchosen
        rw [State.acceptTaken, if_pos (by exact hcleared), hpassed]
        exact ⟨fun h => congrArg _ (judgeRunout_of_holds fun hends => h ⟨hends.1, holdsSheets_eq_false.1 hends.2⟩),
          fun h => congrArg _ (judgeRunout_of_none ⟨h.1, holdsSheets_eq_false.2 h.2⟩)⟩

/-! ## JAM (R89 to R91) -/

section Jam

theorem kindCode_range (k : JamKind) : 1 ≤ kindCode k ∧ kindCode k ≤ 12 := by
  cases k <;> decide

theorem kindOfCode_kindCode (k : JamKind) : kindOfCode (kindCode k) = some k := by
  cases k <;> rfl

theorem kindOfCode_none {c : Nat} (h : c = 0 ∨ 12 < c) : kindOfCode c = none := by
  refine List.find?_eq_none.2 fun k _ hk => ?_
  have hrange := kindCode_range k
  rw [beq_iff_eq] at hk
  omega

theorem jamRead_of_defined {f : JamFrame} {k : JamKind} (hk : f.kind.toNat = kindCode k) (h1 : 1 ≤ f.rank.toNat)
    (h14 : f.rank.toNat ≤ 14) :
    jamRead f
      = some
          { report :=
              { kind := k, sensor := if f.sensor.toNat ≤ 3 then some f.sensor.toNat else none,
                sheetId := if f.noSheet then none else some f.sheetId }
            rank := f.rank.toNat
            epoch := f.epoch } := by
  unfold jamRead
  rw [hk, kindOfCode_kindCode]
  exact if_pos ⟨h1, h14⟩

theorem jamRead_of_refused {f : JamFrame}
    (h : f.kind = 0 ∨ 12 < f.kind.toNat ∨ f.rank = 0 ∨ 14 < f.rank.toNat) : jamRead f = none := by
  have hrank : (f.rank = 0 ∨ 14 < f.rank.toNat) → ¬(1 ≤ f.rank.toNat ∧ f.rank.toNat ≤ 14) := by
    rintro (h | h) ⟨h1, h14⟩
    · rw [h] at h1
      exact absurd h1 (by decide)
    · omega
  unfold jamRead
  cases hk : kindOfCode f.kind.toNat with
  | none => rfl
  | some k =>
    refine if_neg (hrank ?_)
    rcases h with h | h | h
    · rw [kindOfCode_none (.inl (by rw [h]; rfl))] at hk
      cases hk
    · rw [kindOfCode_none (.inr h)] at hk
      cases hk
    · exact h

variable {s : State} {source : Nat} {f : JamFrame}

theorem jamAccepted_of_refused
    (h : source = 0 ∨ 14 < source ∨ f.kind = 0 ∨ 12 < f.kind.toNat ∨ f.rank = 0 ∨ 14 < f.rank.toNat
      ∨ f.epoch ≠ s.path.epoch) : s.jamAccepted source f = none := by
  unfold State.jamAccepted
  by_cases hsource : 1 ≤ source ∧ source ≤ 14 ∧ f.epoch = s.path.epoch
  · rw [if_pos hsource]
    obtain ⟨h1, h14, hepoch⟩ := hsource
    refine jamRead_of_refused ?_
    rcases h with h | h | h | h | h | h | h
    · omega
    · omega
    · exact .inl h
    · exact .inr (.inl h)
    · exact .inr (.inr (.inl h))
    · exact .inr (.inr (.inr h))
    · exact absurd hepoch h
  · exact if_neg hsource

/-- The jam items after a JAM frame, as the capture takes it or does not (R86, R87, R90). -/
theorem afterFrame_eq (j : JamMonitor) (source : Nat) (c : JamContents) {fills : Bool}
    (h : fills = true ↔ j.capture = none ∨ ∃ x, j.capture = some x ∧ x.cause = .line) :
    j.afterFrame source c
      = if fills then
          { j with
            capture := some
              { cause := .remote, kind := some c.report.kind, sensor := c.report.sensor,
                sheetId := c.report.sheetId, origin := some source, rank := some c.rank }
            highestRank := max j.highestRank c.rank }
        else
          { j with
            laterSet := j.laterSet ||| BitVec.twoPow 12 (kindCode c.report.kind - 1)
            laterCount := min 255 (j.laterCount + 1)
            highestRank := max j.highestRank c.rank } := by
  rw [← holdsLine_iff] at h
  rcases afterFrame_cases j source c with ⟨hfills, heq⟩ | ⟨hfull, hline, heq⟩
  · rw [heq, if_pos (h.2 hfills)]
  · have hlater : ¬fills = true := fun hf => by
      rcases h.1 hf with hnone | hholds
      · exact hfull hnone
      · exact Bool.false_ne_true (hline.symm.trans hholds)
    rw [heq, if_neg hlater]
    rfl

theorem remoteJam_of_run (hs : s.path.state = .run) (rank : Nat) : s.remoteJam rank = s.flushHandoffs.endDecide := by
  simp only [State.remoteJam, hs]

theorem remoteJam_of_decide (hs : s.path.state = .decide) (rank : Nat) : s.remoteJam rank = s.endDecide := by
  simp only [State.remoteJam, hs]

theorem remoteJam_of_runout (hs : s.path.state = .runout) (rank : Nat) :
    s.remoteJam rank = if s.prof.rank ≤ rank ∨ s.eligible = false then stoppedQuietly s else s := by
  simp only [State.remoteJam, hs]
  rfl

theorem remoteJam_of_stopping (hs : s.path.state = .stopping) (rank : Nat) : s.remoteJam rank = s := by
  simp only [State.remoteJam, hs]

end Jam

/-- Settles O55: the frame ignored, refused or recorded, and then the answer by state. -/
theorem jamFramesTaken : Obligations.JamFramesTaken := by
  unfold Obligations.JamFramesTaken
  intro s source f hr ha
  have hexec : exec (.jam source f) s = .next ((received s).jamReceived source f) := onFrame_of_awaits hr ha
  have hread : matchingState s.path.state = true → s.stationNumber ≠ some source.toNat →
      ¬(matchingState (received s).path.state = false ∨ (received s).stationNumber = some source.toNat) :=
    fun hs hother h => h.elim (fun hf => Bool.false_ne_true (hf.symm.trans hs)) hother
  refine ⟨fun h => ?_, fun hs hother hbad => ?_, fun kind hs hother h1 h14 hkind hr1 hr14 hepoch => ?_⟩
  · rw [hexec, State.jamReceived, if_pos (by exact h)]
  · have hnone : (received s).jamAccepted source.toNat f = none := jamAccepted_of_refused hbad
    rw [hexec, State.jamReceived, if_neg (hread hs hother)]
    simp only [hnone]
    rfl
  · intro u flushed fills hfills
    have haccepted : (received s).jamAccepted source.toNat f
        = some
            { report :=
                { kind := kind, sensor := if f.sensor.toNat ≤ 3 then some f.sensor.toNat else none,
                  sheetId := if f.noSheet then none else some f.sheetId }
              rank := f.rank.toNat
              epoch := f.epoch } :=
      (if_pos ⟨h1, h14, hepoch⟩).trans (jamRead_of_defined hkind hr1 hr14)
    have htaken : exec (.jam source f) s = .next ((u fills).remoteJam f.rank.toNat) := by
      rw [hexec, State.jamReceived, if_neg (hread hs hother)]
      simp only [haccepted, State.updJam]
      rw [afterFrame_eq (received s).jam source.toNat _ hfills]
      rfl
    rw [htaken]
    refine ⟨fun hstate => ?_, fun hstate => ⟨fun hends => ?_, fun hbelow he => ?_⟩, fun hstate => ?_⟩
    · rcases hstate with hstate | hstate
      · have hflushed : flushed (u fills) = (u fills).flushHandoffs := if_pos hstate
        rw [remoteJam_of_run (s := u fills) hstate, hflushed]
        exact ⟨fun he hh => congrArg _ (endDecide_of_runs (s := (u fills).flushHandoffs) he hh),
          fun h => congrArg _ (endDecide_of_stops (s := (u fills).flushHandoffs) h)⟩
      · have hkept : flushed (u fills) = u fills := if_neg (by rw [hstate]; decide)
        rw [remoteJam_of_decide (s := u fills) hstate, hkept]
        exact ⟨fun he hh => congrArg _ (endDecide_of_runs (s := u fills) he hh),
          fun h => congrArg _ (endDecide_of_stops (s := u fills) h)⟩
    · rw [remoteJam_of_runout (s := u fills) hstate, if_pos (by exact hends)]
    · rw [remoteJam_of_runout (s := u fills) hstate, if_neg]
      rintro (hrank | hnot)
      · exact absurd hbelow (Nat.not_lt.2 hrank)
      · exact Bool.false_ne_true (hnot.symm.trans he)
    · rw [remoteJam_of_stopping (s := u fills) hstate]

end Sys2Proof.Laws
end

section
/-! PROOFS. The frames sent: which begins, what PB_TX carries, and how an attempt ends (9.1, 9.3, 9.4). -/

namespace Sys2Proof.Laws

open Sys2Proof Sys2Proof.Machine Sys2Proof.Safety

/-! ## The beginning of an attempt (R150, R151) -/

section Begins

variable {s : State} {own : Nat} {cls : QueueClass} {e : Entry} {rest : List Entry}

theorem exec_transmitStart_of_none (hr : s.inReset = false) (h : s.beginsNow = none) (idle : Nat) :
    exec (.transmitStart idle) s = .next s := by
  change execTransmitStart idle s = _
  rw [execTransmitStart, whileRunning_of_running hr]
  simp only [h]

theorem exec_transmitStart_of_some (hr : s.inReset = false) (h : s.beginsNow = some (own, cls, e)) (idle : Nat) :
    exec (.transmitStart idle) s = .next (if s.link.idleCount = idle then s.beginAttempt own cls e else s) := by
  change execTransmitStart idle s = _
  rw [execTransmitStart, whileRunning_of_running hr]
  simp only [h]

theorem beginsNow_eq_none
    (h : ∀ own cls e, s.stationNumber = some own → s.link.attempt = none → s.link.charClock = 0 → Offers s cls e →
      s.link.idleCount < gapOf own cls + 16 * e.retry) : s.beginsNow = none := by
  cases hb : s.beginsNow with
  | none => rfl
  | some x =>
    obtain ⟨own, cls, e⟩ := x
    obtain ⟨hown, hattempt, hoffers, hgap, hclock⟩ := beginsNow_iff.1 hb
    have hwaits := h own cls e hown hattempt hclock hoffers
    rw [frameGap_eq] at hgap
    omega

/-- One frame is offered at a time (R150). -/
theorem offers_unique {cls' : QueueClass} {e' : Entry} (h : Offers s cls e) (h' : Offers s cls' e') :
    cls' = cls ∧ e' = e := by
  have hsame := ((offered_iff rfl).2 h').symm.trans ((offered_iff rfl).2 h)
  simp only [Option.some.injEq, Prod.mk.injEq] at hsame
  exact hsame

theorem offers_urgent (h : s.link.urgent = e :: rest) : Offers s .urgent e :=
  ⟨by rw [Link.queue, h]; rfl, fun hne => absurd rfl hne, by rintro ⟨⟩⟩

theorem offers_path (hu : s.link.urgent = []) (h : s.link.path = e :: rest) : Offers s .path e :=
  ⟨by rw [Link.queue, h]; rfl, fun _ => hu, by rintro ⟨⟩⟩

theorem offers_report (hu : s.link.urgent = []) (hp : s.link.path = []) (h : s.link.report = e :: rest) :
    Offers s .report e :=
  ⟨by rw [Link.queue, h]; rfl, fun _ => hu, fun _ => hp⟩

/-- The offered frame waits below its gap, and begins at it. -/
theorem exec_transmitStart_offered (hr : s.inReset = false) (hown : s.stationNumber = some own)
    (hattempt : s.link.attempt = none) (hclock : s.link.charClock = 0) (hoffers : Offers s cls e) :
    (s.link.idleCount < gapOf own cls + 16 * e.retry → exec (.transmitStart s.link.idleCount) s = .next s)
      ∧ (gapOf own cls + 16 * e.retry ≤ s.link.idleCount →
          exec (.transmitStart s.link.idleCount) s = .next (s.beginAttempt own cls e)) := by
  refine ⟨fun hwaits => exec_transmitStart_of_none hr (beginsNow_eq_none ?_) _, fun hgap => ?_⟩
  · intro own' cls' e' hown' _ _ hoffers'
    obtain ⟨rfl, rfl⟩ := offers_unique hoffers hoffers'
    obtain rfl : own = own' := Option.some.inj (hown.symm.trans hown')
    exact hwaits
  · rw [exec_transmitStart_of_some hr (beginsNow_iff.2 ⟨hown, hattempt, hoffers, by rwa [frameGap_eq], hclock⟩),
      if_pos rfl]

theorem beginAttempt_eq (h : s.link.queue cls = e :: rest) (own : Nat) :
    s.beginAttempt own cls e
      = { s with
          link :=
            { s.link.setQueue cls ({ e with started := true } :: rest) with
              attempt := some { cls := cls, bytes := attemptBytes s.window.timeBase own e }
              txEnable := true
              idleCount := 0
              charClock := 0 } } := by
  rw [State.beginAttempt, State.updLink, h]
  rfl

end Begins

/-! ## The characters on PB_TX (R144) -/

theorem flatten_getD {α : Type} {n : Nat} {d : α} {l : List (List α)} (hl : ∀ x ∈ l, x.length = n) {j r : Nat}
    (hj : j < l.length) (hr : r < n) : l.flatten.getD (n * j + r) d = (l.getD j []).getD r d := by
  induction l generalizing j with
  | nil => simp at hj
  | cons x xs ih =>
    have hx : x.length = n := hl x (by simp)
    rw [List.flatten_cons]
    cases j with
    | zero => rw [Nat.mul_zero, Nat.zero_add, List.getD_append _ _ _ _ (by omega), List.getD_cons_zero]
    | succ j =>
      have hplace : n * (j + 1) + r - x.length = n * j + r := by rw [hx, Nat.mul_succ]; omega
      rw [List.getD_append_right _ _ _ _ (by rw [hx, Nat.mul_succ]; omega), hplace, List.getD_cons_succ]
      exact ih (fun y hy => hl y (by simp [hy])) (by simpa using hj)

theorem characterBits_length (c : Character) : (characterBits c).length = 11 := by
  simp [characterBits]

/-- The start bit, the data bits from the least significant, the mark and the stop bit. -/
theorem characterBits_getD (c : Character) :
    (characterBits c).getD 0 true = false ∧ (∀ i < 8, (characterBits c).getD (1 + i) true = c.data.getLsbD i)
      ∧ (characterBits c).getD 9 true = c.mark ∧ (characterBits c).getD 10 true = c.stop := by
  refine ⟨rfl, fun i hi => ?_, rfl, rfl⟩
  match i with
  | 0 | 1 | 2 | 3 | 4 | 5 | 6 | 7 => rfl

theorem pbTxCharacters_length (a : Attempt) : (pbTxCharacters a).length = a.bytes.length := by
  unfold pbTxCharacters
  cases a.bytes <;> simp

theorem pbTxCharacters_getD {a : Attempt} {j : Nat} (hj : j < a.bytes.length) :
    (pbTxCharacters a).getD j [] = characterBits (sentCharacter (decide (j = 0)) (a.bytes.getD j 0)) := by
  unfold pbTxCharacters
  cases hb : a.bytes with
  | nil => simp [hb] at hj
  | cons b rest =>
    rw [hb] at hj
    cases j with
    | zero => rfl
    | succ j =>
      have hlt : j < rest.length := by simpa using hj
      simp [List.getD_eq_getElem?_getD, hlt]

theorem pbTxPin_eq {s : State} {a : Attempt} (h : s.link.attempt = some a) {j r : Nat} (hj : j < a.bytes.length)
    (hr : r < 11) :
    pbTxPin s (11 * j + r)
      = (characterBits (sentCharacter (decide (j = 0)) (a.bytes.getD j 0))).getD r true := by
  have huniform : ∀ x ∈ pbTxCharacters a, x.length = 11 := by
    unfold pbTxCharacters
    cases a.bytes <;> simp [characterBits_length]
  simp only [pbTxPin, h]
  rw [flatten_getD huniform (by rwa [pbTxCharacters_length]) hr, pbTxCharacters_getD hj]

/-- Settles O58: the offered frame against its gap, and the bits of the characters it sends. -/
theorem transmitBegins : Obligations.TransmitBegins := by
  unfold Obligations.TransmitBegins
  intro s hr
  refine ⟨fun h => ?_, fun idle hidle => ?_, fun own e rest hown hattempt hclock => ⟨fun hu => ?_, fun hu hp => ?_,
    fun hu hp hq => ?_⟩, fun a j ha hj => ⟨?_, fun i hi => ?_, ?_, ?_⟩, fun ha bit => ?_⟩
  · refine exec_transmitStart_of_none hr (beginsNow_eq_none fun own cls e hown hattempt hclock hoffers => ?_) _
    rcases h with h | h | h | ⟨hu, hp, hq⟩
    · rw [h] at hown
      cases hown
    · exact absurd hattempt h
    · exact absurd hclock h
    · have hhead := hoffers.1
      cases cls <;> simp [Link.queue, hu, hp, hq] at hhead
  · cases hb : s.beginsNow with
    | none => exact exec_transmitStart_of_none hr hb idle
    | some x => rw [exec_transmitStart_of_some hr hb, if_neg hidle.symm]
  · obtain ⟨hwaits, hbegins⟩ := exec_transmitStart_offered hr hown hattempt hclock (offers_urgent hu)
    refine ⟨hwaits, fun hgap => ?_⟩
    rw [hbegins hgap, beginAttempt_eq (by exact hu)]
    rfl
  · obtain ⟨hwaits, hbegins⟩ := exec_transmitStart_offered hr hown hattempt hclock (offers_path hu hp)
    refine ⟨hwaits, fun hgap => ?_⟩
    rw [hbegins hgap, beginAttempt_eq (by exact hp)]
    rfl
  · obtain ⟨hwaits, hbegins⟩ := exec_transmitStart_offered hr hown hattempt hclock (offers_report hu hp hq)
    refine ⟨hwaits, fun hgap => ?_⟩
    rw [hbegins hgap, beginAttempt_eq (by exact hq)]
    rfl
  · exact (pbTxPin_eq ha hj (by omega : 0 < 11)).trans (characterBits_getD _).1
  · rw [Nat.add_assoc, pbTxPin_eq ha hj (by omega)]
    exact (characterBits_getD _).2.1 i hi
  · exact (pbTxPin_eq ha hj (by omega)).trans (characterBits_getD _).2.2.1
  · exact (pbTxPin_eq ha hj (by omega)).trans (characterBits_getD _).2.2.2
  · simp only [pbTxPin, ha]

/-! ## The end of an attempt (R151, R152) -/

section Ends

variable {s : State} {a : Attempt} {e : Entry} {rest : List Entry}

/-- The link after an attempt (R151). -/
def quiet (l : Link) : Link :=
  { l with attempt := none, txEnable := false, idleCount := 0, charClock := 0 }

theorem endAttempt_eq (s : State) : s.endAttempt = { s with link := quiet s.link } :=
  rfl

theorem queue_quiet (l : Link) (c : QueueClass) : (quiet l).queue c = l.queue c := by
  cases c <;> rfl

theorem exec_transmitComplete (hr : s.inReset = false) (ha : s.link.attempt = some a)
    (hq : s.link.queue a.cls = e :: rest) :
    exec .transmitComplete s = .next { s with link := (quiet s.link).setQueue a.cls rest } := by
  have hrest : ((quiet s.link).queue a.cls).tail = rest := by rw [queue_quiet, hq, List.tail_cons]
  change execTransmitComplete s = _
  rw [execTransmitComplete, whileRunning_of_running hr]
  simp only [ha, State.dropHead, State.updLink, endAttempt_eq, hrest]

theorem exec_collision (hr : s.inReset = false) (ha : s.link.attempt = some a)
    (hq : s.link.queue a.cls = e :: rest) :
    exec .collision s
      = .next (if 3 ≤ e.retry then (s.endAttempt.count .transmitRetry).discardHead a.cls
          else (s.endAttempt.count .transmitRetry).retryHead a.cls) := by
  change execCollision s = _
  rw [execCollision, whileRunning_of_running hr]
  simp only [ha, hq, List.head?_cons]
  rfl

theorem retryHead_eq (hq : s.link.queue a.cls = e :: rest) :
    (s.endAttempt.count .transmitRetry).retryHead a.cls
      = { s with
          link := (quiet s.link).setQueue a.cls ({ e with retry := e.retry + 1 } :: rest)
          counters := { s.counters with transmitRetry := raised s.counters.transmitRetry 1 } } := by
  have hhead : ((quiet s.link).queue a.cls).modifyHead (fun x => { x with retry := x.retry + 1 })
      = { e with retry := e.retry + 1 } :: rest := by
    rw [queue_quiet, hq]
    rfl
  rw [← hhead]
  rfl

/-- The frame discarded leaves its queue, counted (R152). -/
def discarded (s : State) (cls : QueueClass) (rest : List Entry) : State :=
  { s with
    link := (quiet s.link).setQueue cls rest
    counters :=
      { s.counters with
        transmitRetry := raised s.counters.transmitRetry 1
        transmitDiscard := raised s.counters.transmitDiscard 1 } }

theorem discardHead_eq (hq : s.link.queue a.cls = e :: rest) :
    (s.endAttempt.count .transmitRetry).discardHead a.cls
      = if s.path.state = .run ∧ a.cls ≠ .report then
          (discarded s a.cls rest).raiseJams [{ kind := .link, sensor := none, sheetId := none }]
        else discarded s a.cls rest := by
  have hrest : ((quiet s.link).queue a.cls).tail = rest := by rw [queue_quiet, hq, List.tail_cons]
  rw [← hrest]
  rfl

end Ends

/-- Settles O59: success, a retry and a discard, each with the frame at the head of its queue. -/
theorem attemptsEnd : Obligations.AttemptsEnd := by
  unfold Obligations.AttemptsEnd
  intro s a e rest hr ha hq quieted withQueue
  have hqueue : ∀ q, withQueue q = (quiet s.link).setQueue a.cls q := fun q => by
    simp only [withQueue, quieted, Link.setQueue]
    cases a.cls <;> rfl
  simp only [hqueue]
  refine ⟨exec_transmitComplete hr ha hq, fun hretry => ?_, fun hlast => ⟨fun hquiet => ?_, fun hs hcls => ?_⟩⟩
  · rw [exec_collision hr ha hq, if_neg (by omega), retryHead_eq hq]
  · rw [exec_collision hr ha hq, if_pos hlast, discardHead_eq hq,
      if_neg fun h => hquiet.elim (fun hne => hne h.1) h.2]
    rfl
  · rw [exec_collision hr ha hq, if_pos hlast, discardHead_eq hq, if_pos ⟨hs, hcls⟩]
    rfl

end Sys2Proof.Laws
end

section
/-! PROOFS. Reading back what a frame carries (9.1, 11.2 to 11.4). -/

namespace Sys2Proof.Laws

open Sys2Proof Sys2Proof.Machine Sys2Proof.Safety

/-! ## Bits of a byte and two-byte numbers (R170) -/

theorem append_low {m n : Nat} (x : BitVec m) (y : BitVec n) {i : Nat} (h : i < n) :
    (x ++ y).getLsbD i = y.getLsbD i := by
  rw [BitVec.getLsbD_append]
  simp [h]

theorem append_high {m n : Nat} (x : BitVec m) (y : BitVec n) (i : Nat) : (x ++ y).getLsbD (n + i) = x.getLsbD i := by
  rw [BitVec.getLsbD_append]
  simp

theorem halfBytes_append (w : Half) : w.extractLsb' 8 8 ++ w.extractLsb' 0 8 = w := by
  refine BitVec.eq_of_getLsbD_eq fun i hi => ?_
  rw [BitVec.getLsbD_append]
  by_cases h : i < 8
  · simp [h]
  · have hhigh : i - 8 < 8 := by omega
    simp [h, hhigh, show 8 + (i - 8) = i by omega]

/-- A two-byte number is read from its two bytes. -/
theorem halfAt_of {p : List Byte} {i : Nat} {w : Half} (hhigh : byteAt p i = w.extractLsb' 8 8)
    (hlow : byteAt p (i + 1) = w.extractLsb' 0 8) : halfAt p i = w := by
  rw [halfAt, hhigh, hlow, halfBytes_append]

/-- Role bits, with any bits 7 to 5 beside them. -/
theorem rolesOfByte_rolesByte (r : Roles) (unused : BitVec 3) :
    rolesOfByte (rolesByte r ||| (unused ++ (0 : BitVec 5))) = r := by
  obtain ⟨feed, delivery, loop, runout, flip⟩ := r
  revert feed delivery loop runout flip unused
  decide

/-- The first byte of a HELLO, with any bits 4 to 0. -/
theorem helloFlags (fresh configured exitB : Bool) (unused : BitVec 5) :
    (BitVec.ofBool fresh ++ BitVec.ofBool configured ++ BitVec.ofBool exitB ++ unused : Byte).getLsbD 7 = fresh
      ∧ (BitVec.ofBool fresh ++ BitVec.ofBool configured ++ BitVec.ofBool exitB ++ unused : Byte).getLsbD 6
        = configured
      ∧ (BitVec.ofBool fresh ++ BitVec.ofBool configured ++ BitVec.ofBool exitB ++ unused : Byte).getLsbD 5
        = exitB := by
  revert fresh configured exitB unused
  decide

/-- The divert byte of a SETUP, with any bits 6 to 3. -/
theorem divertBits (present back front simplex : Bool) (unused : BitVec 4) :
    (bitsByte present false false false false back front simplex
        ||| ((0 : BitVec 1) ++ unused ++ (0 : BitVec 3))).getLsbD 7 = present
      ∧ (bitsByte present false false false false back front simplex
        ||| ((0 : BitVec 1) ++ unused ++ (0 : BitVec 3))).getLsbD 0 = simplex
      ∧ (bitsByte present false false false false back front simplex
        ||| ((0 : BitVec 1) ++ unused ++ (0 : BitVec 3))).getLsbD 1 = front
      ∧ (bitsByte present false false false false back front simplex
        ||| ((0 : BitVec 1) ++ unused ++ (0 : BitVec 3))).getLsbD 2 = back := by
  revert present back front simplex unused
  decide

/-- The mode byte of a SETUP, with any bits 1 to 0. -/
theorem modeFields (anchoring escalation report unused : BitVec 2) :
    ((anchoring ++ escalation ++ report ++ (0 : BitVec 2) : Byte) ||| ((0 : BitVec 6) ++ unused)).extractLsb' 6 2
        = anchoring
      ∧ ((anchoring ++ escalation ++ report ++ (0 : BitVec 2) : Byte) ||| ((0 : BitVec 6) ++ unused)).extractLsb' 4 2
        = escalation
      ∧ ((anchoring ++ escalation ++ report ++ (0 : BitVec 2) : Byte) ||| ((0 : BitVec 6) ++ unused)).extractLsb' 2 2
        = report := by
  revert anchoring escalation report unused
  decide

/-- The filter byte of a SETUP. -/
theorem filterFields (m3 m2 m1 m0 : BitVec 2) :
    (m3 ++ m2 ++ m1 ++ m0 : Byte).extractLsb' 0 2 = m0 ∧ (m3 ++ m2 ++ m1 ++ m0 : Byte).extractLsb' 2 2 = m1
      ∧ (m3 ++ m2 ++ m1 ++ m0 : Byte).extractLsb' 4 2 = m2 ∧ (m3 ++ m2 ++ m1 ++ m0 : Byte).extractLsb' 6 2 = m3 := by
  revert m3 m2 m1 m0
  decide

/-- Two station numbers in a byte. -/
theorem nibbleFields (a b : BitVec 4) :
    (a ++ b : Byte).extractLsb' 4 4 = a ∧ (a ++ b : Byte).extractLsb' 0 4 = b :=
  ⟨BitVec.extractLsb'_append_eq_left, BitVec.extractLsb'_append_eq_right⟩

/-! ## Packed tags (11.2) -/

theorem sheetId_append (extra : BitVec 4) (id : SheetId) : (extra ++ id).extractLsb' 0 12 = id :=
  BitVec.extractLsb'_append_eq_right

theorem lengthWord (side : BitVec 2) (heavy : Bool) (length : BitVec 13) :
    (side ++ BitVec.ofBool heavy ++ length : Half).extractLsb' 14 2 = side
      ∧ (side ++ BitVec.ofBool heavy ++ length : Half).getLsbD 13 = heavy
      ∧ (side ++ BitVec.ofBool heavy ++ length : Half).extractLsb' 0 13 = length := by
  refine ⟨BitVec.eq_of_getLsbD_eq fun i hi => ?_, ?_, BitVec.extractLsb'_append_eq_right⟩
  · have hplace : 14 + i = 13 + (1 + i) := by omega
    rw [BitVec.getLsbD_extractLsb', decide_eq_true hi, Bool.true_and, hplace]
    exact (append_high (side ++ BitVec.ofBool heavy) length (1 + i)).trans (append_high side _ i)
  · refine (append_high (side ++ BitVec.ofBool heavy) length 0).trans ((append_low side _ (by decide)).trans ?_)
    cases heavy <;> rfl

/-- The tag is read from its bytes, whatever the extra bits (R170). -/
theorem tagAt_tagBytes (extra : BitVec 4) (t : WireTag) (rest : List Byte) :
    tagAt (tagBytes extra t ++ rest) 1 = t := by
  obtain ⟨sheetId, job, page, side, heavy, length⟩ := t
  obtain ⟨hside, hheavy, hlength⟩ := lengthWord side heavy length
  have hfirst : halfAt (tagBytes extra ⟨sheetId, job, page, side, heavy, length⟩ ++ rest) 1 = extra ++ sheetId :=
    halfAt_of rfl rfl
  have hpage : halfAt (tagBytes extra ⟨sheetId, job, page, side, heavy, length⟩ ++ rest) 4 = page := halfAt_of rfl rfl
  have hlast : halfAt (tagBytes extra ⟨sheetId, job, page, side, heavy, length⟩ ++ rest) 6
      = side ++ BitVec.ofBool heavy ++ length := halfAt_of rfl rfl
  have hjob : byteAt (tagBytes extra ⟨sheetId, job, page, side, heavy, length⟩ ++ rest) 3 = job := rfl
  simp only [tagAt, hfirst, hpage, hlast, hjob, sheetId_append, hside, hheavy, hlength]

theorem halfAt_afterTag (extra : BitVec 4) (t : WireTag) (w : Half) : halfAt (tagBytes extra t ++ halfBytes w) 8 = w :=
  halfAt_of rfl rfl

/-! ## The payloads, whatever their unused bits -/

theorem helloOfPayload_of_unused (f : HelloFrame) (low : BitVec 5) (high : BitVec 3) :
    helloOfPayload
        [BitVec.ofBool f.fresh ++ BitVec.ofBool f.configured ++ BitVec.ofBool f.exitB ++ low, f.rank,
          rolesByte f.roles ||| (high ++ (0 : BitVec 5)), f.sensorCount]
      = f := by
  obtain ⟨fresh, configured, exitB, rank, roles, sensorCount⟩ := f
  obtain ⟨hfresh, hconfigured, hexitB⟩ := helloFlags fresh configured exitB low
  exact (HelloFrame.mk.injEq ..).mpr ⟨hfresh, hconfigured, hexitB, rfl, rolesOfByte_rolesByte roles high, rfl⟩

theorem jamOfPayload_of_unused (f : JamFrame) (mid : BitVec 3) :
    jamOfPayload
        ([f.kind, f.sensor] ++ halfBytes (BitVec.ofBool f.noSheet ++ mid ++ f.sheetId) ++ [f.rank, f.epoch])
      = f := by
  obtain ⟨kind, sensor, noSheet, sheetId, rank, epoch⟩ := f
  have hfield : ∀ p, p = [kind, sensor] ++ halfBytes (BitVec.ofBool noSheet ++ mid ++ sheetId) ++ [rank, epoch] →
      halfAt p 3 = BitVec.ofBool noSheet ++ mid ++ sheetId := by
    rintro p rfl
    exact halfAt_of rfl rfl
  have hnoSheet : (BitVec.ofBool noSheet ++ mid ++ sheetId : Half).getLsbD 15 = noSheet := by
    refine (append_high (BitVec.ofBool noSheet ++ mid) sheetId 3).trans ((append_high _ mid 0).trans ?_)
    cases noSheet <;> rfl
  have hid : (BitVec.ofBool noSheet ++ mid ++ sheetId : Half).extractLsb' 0 12 = sheetId :=
    BitVec.extractLsb'_append_eq_right
  refine (JamFrame.mk.injEq ..).mpr ⟨rfl, rfl, ?_, ?_, rfl, rfl⟩
  · rw [hfield _ rfl, hnoSheet]
  · rw [hfield _ rfl, hid]

/-- A SETUP payload with any unused bits. -/
def setupUnused (f : SetupFrame) (high : BitVec 3) (mid : BitVec 4) (low : BitVec 2) : List Byte :=
  (((setupPayload f).modify 2 fun b => b ||| (high ++ (0 : BitVec 5))).modify 13 fun b =>
      b ||| ((0 : BitVec 1) ++ mid ++ (0 : BitVec 3))).modify 21 fun b =>
    b ||| ((0 : BitVec 6) ++ low)

/-- The 39 bytes of a SETUP payload, with its bytes 3, 14 and 22. -/
def setupBytes (f : SetupFrame) (roles divert modes : Byte) : List Byte :=
  [f.epoch, f.rank, roles, f.upA ++ f.upB, f.exitA ++ f.exitB, f.bridgeA.extractLsb' 8 8, f.bridgeA.extractLsb' 0 8,
    f.bridgeB.extractLsb' 8 8, f.bridgeB.extractLsb' 0 8, f.reachA.extractLsb' 8 8, f.reachA.extractLsb' 0 8,
    f.reachB.extractLsb' 8 8, f.reachB.extractLsb' 0 8, divert, f.n, f.pos1.extractLsb' 8 8, f.pos1.extractLsb' 0 8,
    f.pos2.extractLsb' 8 8, f.pos2.extractLsb' 0 8, f.pos3.extractLsb' 8 8, f.pos3.extractLsb' 0 8, modes,
    f.mode3 ++ f.mode2 ++ f.mode1 ++ f.mode0, f.filter, f.speed.extractLsb' 8 8, f.speed.extractLsb' 0 8, f.tolPct,
    f.slack.extractLsb' 8 8, f.slack.extractLsb' 0 8, f.lenTol.extractLsb' 8 8, f.lenTol.extractLsb' 0 8,
    f.linkAllow.extractLsb' 8 8, f.linkAllow.extractLsb' 0 8, f.pickDelay.extractLsb' 8 8, f.pickDelay.extractLsb' 0 8,
    f.stopSettle.extractLsb' 8 8, f.stopSettle.extractLsb' 0 8, f.coverSettle.extractLsb' 8 8,
    f.coverSettle.extractLsb' 0 8]

theorem setupPayload_eq (f : SetupFrame) :
    setupPayload f
      = setupBytes f (rolesByte f.roles)
          (bitsByte f.divertPresent false false false false f.divert.back f.divert.front f.divert.simplex)
          (f.anchoring ++ f.escalation ++ f.report ++ (0 : BitVec 2)) := by
  simp only [setupPayload, halfBytes, List.cons_append, List.nil_append, setupBytes]

theorem modify_setupBytes (f : SetupFrame) (roles divert modes : Byte) (g h k : Byte → Byte) :
    (((setupBytes f roles divert modes).modify 2 g).modify 13 h).modify 21 k
      = setupBytes f (g roles) (h divert) (k modes) := by
  simp only [setupBytes, List.modify_succ_cons, List.modify_zero_cons]

theorem setupUnused_eq (f : SetupFrame) (high : BitVec 3) (mid : BitVec 4) (low : BitVec 2) :
    setupUnused f high mid low
      = setupBytes f (rolesByte f.roles ||| (high ++ (0 : BitVec 5)))
          (bitsByte f.divertPresent false false false false f.divert.back f.divert.front f.divert.simplex
            ||| ((0 : BitVec 1) ++ mid ++ (0 : BitVec 3)))
          ((f.anchoring ++ f.escalation ++ f.report ++ (0 : BitVec 2)) ||| ((0 : BitVec 6) ++ low)) := by
  rw [setupUnused, setupPayload_eq, modify_setupBytes]

theorem setupBytes_length (f : SetupFrame) (roles divert modes : Byte) :
    (setupBytes f roles divert modes).length = 39 := by
  simp only [setupBytes, List.length_cons, List.length_nil]

/-- A SETUP is read from its bytes where its bytes 3, 14 and 22 hold its bits. -/
theorem setupOfPayload_setupBytes {f : SetupFrame} {roles divert modes : Byte} (hroles : rolesOfByte roles = f.roles)
    (hpresent : divert.getLsbD 7 = f.divertPresent) (hsimplex : divert.getLsbD 0 = f.divert.simplex)
    (hfront : divert.getLsbD 1 = f.divert.front) (hback : divert.getLsbD 2 = f.divert.back)
    (hanchoring : modes.extractLsb' 6 2 = f.anchoring) (hescalation : modes.extractLsb' 4 2 = f.escalation)
    (hreport : modes.extractLsb' 2 2 = f.report) : setupOfPayload (setupBytes f roles divert modes) = f := by
  obtain ⟨hm0, hm1, hm2, hm3⟩ := filterFields f.mode3 f.mode2 f.mode1 f.mode0
  obtain ⟨hupA, hupB⟩ := nibbleFields f.upA f.upB
  obtain ⟨hexitA, hexitB⟩ := nibbleFields f.exitA f.exitB
  simp only [setupOfPayload, setupBytes, halfAt, byteAt, List.getD_cons_succ, List.getD_cons_zero, Nat.reduceSub,
    Nat.reduceAdd, halfBytes_append, hroles, hpresent, hsimplex, hfront, hback, hanchoring, hescalation, hreport, hm0,
    hm1, hm2, hm3, hupA, hupB, hexitA, hexitB]

theorem setupOfPayload_of_unused (f : SetupFrame) (high : BitVec 3) (mid : BitVec 4) (low : BitVec 2) :
    setupOfPayload (setupUnused f high mid low) = f := by
  obtain ⟨hpresent, hsimplex, hfront, hback⟩ :=
    divertBits f.divertPresent f.divert.back f.divert.front f.divert.simplex mid
  obtain ⟨hanchoring, hescalation, hreport⟩ := modeFields f.anchoring f.escalation f.report low
  rw [setupUnused_eq]
  exact setupOfPayload_setupBytes (rolesOfByte_rolesByte f.roles high) hpresent hsimplex hfront hback hanchoring
    hescalation hreport

end Sys2Proof.Laws
end

section
/-! PROOFS. Whole frames read back: every received frame, with any unused bits, and those of a peer (9.1, 9.2, 11.4). -/

namespace Sys2Proof.Laws

open Sys2Proof Sys2Proof.Machine Sys2Proof.Safety

/-! ## Payloads as sent -/

theorem helloOfPayload_helloPayload (f : HelloFrame) : helloOfPayload (helloPayload f) = f := by
  have hflags : ∀ a b c : Bool, bitsByte a b c false false false false false
      = BitVec.ofBool a ++ BitVec.ofBool b ++ BitVec.ofBool c ++ (0 : BitVec 5) := by decide
  have hroles : rolesByte f.roles = rolesByte f.roles ||| ((0 : BitVec 3) ++ (0 : BitVec 5)) := BitVec.or_zero.symm
  rw [helloPayload, hflags, hroles]
  exact helloOfPayload_of_unused f 0 0

theorem jamOfPayload_jamPayload (f : JamFrame) : jamOfPayload (jamPayload f) = f :=
  jamOfPayload_of_unused f 0

theorem setupUnused_zero (f : SetupFrame) : setupUnused f 0 0 0 = setupPayload f := by
  have hdivert : (0 : BitVec 1) ++ (0 : BitVec 4) ++ (0 : BitVec 3) = (0 : Byte) := rfl
  have hroles : (0 : BitVec 3) ++ (0 : BitVec 5) = (0 : Byte) := rfl
  have hmodes : (0 : BitVec 6) ++ (0 : BitVec 2) = (0 : Byte) := rfl
  have hor : ∀ b : Byte, b ||| (0 : Byte) = b := fun _ => BitVec.or_zero
  rw [setupUnused_eq, hdivert, hroles, hmodes, hor, hor, hor, setupPayload_eq]

theorem setupOfPayload_setupPayload (f : SetupFrame) : setupOfPayload (setupPayload f) = f := by
  rw [← setupUnused_zero]
  exact setupOfPayload_of_unused f 0 0 0

theorem setupUnused_length (f : SetupFrame) (high : BitVec 3) (mid : BitVec 4) (low : BitVec 2) :
    (setupUnused f high mid low).length = 39 := by
  rw [setupUnused_eq, setupBytes_length]

theorem sheetOfHalf (extra : BitVec 4) (sheet : SheetId) :
    (halfAt (halfBytes (extra ++ sheet)) 1).extractLsb' 0 12 = sheet := by
  have hhalf : halfAt (halfBytes (extra ++ sheet)) 1 = extra ++ sheet := halfAt_of rfl rfl
  rw [hhalf, sheetId_append]

/-! ## Frames with any unused bits -/

theorem commandOfFrame_launch (source : Byte) (extra : BitVec 4) (tag : WireTag) :
    commandOfFrame source (tagBytes extra tag) .launch = .launch source tag := by
  have htag := tagAt_tagBytes extra tag []
  rw [List.append_nil] at htag
  rw [commandOfFrame, htag]

theorem commandOfFrame_handoff (source : Byte) (extra : BitVec 4) (tag : WireTag) (age : Half) :
    commandOfFrame source (tagBytes extra tag ++ halfBytes age) .handoff = .handoff source tag age := by
  rw [commandOfFrame, tagAt_tagBytes, halfAt_afterTag]

theorem commandOfFrame_taken (source : Byte) (extra : BitVec 4) (sheet : SheetId) :
    commandOfFrame source (halfBytes (extra ++ sheet)) .taken = .taken source sheet := by
  rw [commandOfFrame, sheetOfHalf]

theorem commandOfFrame_speed (source : Byte) (value : Half) :
    commandOfFrame source (halfBytes value) .speed = .speed source value :=
  congrArg (Instr.speed source) (halfAt_of rfl rfl)

/-- A QUERY by its bit 0. -/
theorem commandOfFrame_query (source b : Byte) :
    commandOfFrame source [b] .query = if b.getLsbD 0 then .queryCensus source else .queryStatus source :=
  rfl

theorem query_lowBit (high : BitVec 7) (bit : BitVec 1) : (high ++ bit : Byte).getLsbD 0 = bit.getLsbD 0 :=
  append_low high bit (by decide)

/-- The bits marked unused are ignored: each frame is read as if they were 0. -/
theorem unusedBits_ignored (dest source : Byte) (extra mid4 : BitVec 4) (tag : WireTag) (age : Half) (sheet : SheetId)
    (h : HelloFrame) (j : JamFrame) (f : SetupFrame) (low5 : BitVec 5) (high3 mid3 : BitVec 3) (high7 : BitVec 7)
    (low2 : BitVec 2) :
    decodeFrame (frameBytes dest source .launch (tagBytes extra tag)) = .ok (.launch source tag)
      ∧ decodeFrame (frameBytes dest source .handoff (tagBytes extra tag ++ halfBytes age))
          = .ok (.handoff source tag age)
      ∧ decodeFrame (frameBytes dest source .taken (halfBytes (extra ++ sheet))) = .ok (.taken source sheet)
      ∧ decodeFrame
            (frameBytes dest source .hello
              [BitVec.ofBool h.fresh ++ BitVec.ofBool h.configured ++ BitVec.ofBool h.exitB ++ low5, h.rank,
                rolesByte h.roles ||| (high3 ++ (0 : BitVec 5)), h.sensorCount])
          = .ok (.hello source h)
      ∧ decodeFrame
            (frameBytes dest source .jam
              ([j.kind, j.sensor] ++ halfBytes (BitVec.ofBool j.noSheet ++ mid3 ++ j.sheetId) ++ [j.rank, j.epoch]))
          = .ok (.jam source j)
      ∧ decodeFrame (frameBytes dest source .query [high7 ++ (0 : BitVec 1)]) = .ok (.queryStatus source)
      ∧ decodeFrame (frameBytes dest source .query [high7 ++ (1 : BitVec 1)]) = .ok (.queryCensus source)
      ∧ decodeFrame (frameBytes dest source .setup (setupUnused f high3 mid4 low2)) = .ok (.setup source f) := by
  refine ⟨?_, ?_, ?_, ?_, ?_, ?_, ?_, ?_⟩
  · rw [decodeFrame_frameBytes dest source (by rfl), commandOfFrame_launch]
  · rw [decodeFrame_frameBytes dest source (by rfl), commandOfFrame_handoff]
  · rw [decodeFrame_frameBytes dest source (by rfl), commandOfFrame_taken]
  · rw [decodeFrame_frameBytes dest source (by rfl), commandOfFrame, helloOfPayload_of_unused]
  · rw [decodeFrame_frameBytes dest source (by rfl), commandOfFrame, jamOfPayload_of_unused]
  · rw [decodeFrame_frameBytes dest source (by rfl), commandOfFrame_query, query_lowBit]
    rfl
  · rw [decodeFrame_frameBytes dest source (by rfl), commandOfFrame_query, query_lowBit]
    rfl
  · rw [decodeFrame_frameBytes dest source (by rw [setupUnused_length]; rfl), commandOfFrame,
      setupOfPayload_of_unused]

/-- Settles O22: each payload is read field by field, and no field takes an unused bit. -/
theorem unusedBitsIgnored : Obligations.UnusedBitsIgnored :=
  unusedBits_ignored

/-! ## The frame of a command -/

/-- The frame of a command: its type and payload, of a length the type allows, which reads as the command. -/
structure CarriedBy (i : Instr) (source : Byte) (type : FrameType) (p : List Byte) : Prop where
  encoded : ∀ dest, encodeFrame dest i = some (frameBytes dest source type p)
  allowed : (payloadLengths type).contains p.length = true
  read : commandOfFrame source p type = i

/-- Every well-formed command that is a received frame has its frame (11.1). -/
theorem exists_carriedBy {i : Instr} (hw : i.WellFormed = true) (he : (encodeFrame 0 i).isSome = true) :
    ∃ source type p, CarriedBy i source type p := by
  cases i with
  | setup source f =>
    have hlength : (setupPayload f).length = 39 := by rw [← setupUnused_zero, setupUnused_length]
    exact ⟨source, .setup, _, fun _ => rfl, by rw [hlength]; rfl,
      congrArg (Instr.setup source) (setupOfPayload_setupPayload f)⟩
  | hello source f =>
    exact ⟨source, .hello, _, fun _ => rfl, rfl, congrArg (Instr.hello source) (helloOfPayload_helloPayload f)⟩
  | launch source tag => exact ⟨source, .launch, _, fun _ => rfl, rfl, commandOfFrame_launch source 0 tag⟩
  | handoff source tag age => exact ⟨source, .handoff, _, fun _ => rfl, rfl, commandOfFrame_handoff source 0 tag age⟩
  | taken source sheet => exact ⟨source, .taken, _, fun _ => rfl, rfl, commandOfFrame_taken source 0 sheet⟩
  | speed source value => exact ⟨source, .speed, _, fun _ => rfl, rfl, commandOfFrame_speed source value⟩
  | resume source epoch => exact ⟨source, .resume, _, fun _ => rfl, rfl, rfl⟩
  | restart source => exact ⟨source, .restart, _, fun _ => rfl, rfl, rfl⟩
  | queryStatus source => exact ⟨source, .query, _, fun _ => rfl, rfl, rfl⟩
  | queryCensus source => exact ⟨source, .query, _, fun _ => rfl, rfl, rfl⟩
  | jam source f =>
    exact ⟨source, .jam, _, fun _ => rfl, rfl, congrArg (Instr.jam source) (jamOfPayload_jamPayload f)⟩
  | untakenFrame source type p =>
    refine ⟨source, reportFrameType type, p, fun _ => rfl, ?_, ?_⟩
    · cases type <;> exact hw
    · cases type <;> rfl
  | hardwareReset | resetRelease | sensorInputChange | filterConfirm | rawEdge | coverInputChange | coverConfirm
  | haltLineChange | leadExpiry | trailExpiry | takeExpiry | decideTimerExpiry | stopSettleExpiry | coverSettleExpiry
  | frameAbandon | assemblerIdle | transmitStart | collision | transmitComplete | markedCharacter => cases he

theorem decodeFrame_of_carriedBy {i : Instr} {source : Byte} {type : FrameType} {p : List Byte}
    (h : CarriedBy i source type p) (dest : Byte) : decodeFrame (frameBytes dest source type p) = .ok i :=
  (decodeFrame_frameBytes dest source h.allowed).trans (congrArg _ h.read)

/-- Encoding does not look at the destination to choose the commands it takes. -/
theorem encodeFrame_isSome (dest : Byte) (i : Instr) : (encodeFrame dest i).isSome = (encodeFrame 0 i).isSome := by
  cases i <;> simp only [encodeFrame, Option.isSome_some, Option.isSome_none]

/-! ## The CRC (R146) -/

theorem crc8_append (bytes : List Byte) (b : Byte) : crc8 (bytes ++ [b]) = crcByte (crc8 bytes) b := by
  simp only [crc8, List.foldl_append, List.foldl_cons, List.foldl_nil]

theorem crcBit_eq (r : Byte) (d : Bool) : crcBit r d = if r.getLsbD 7 = d then r <<< 1 else (r <<< 1) ^^^ 7 := by
  have hmsb : r.msb = r.getLsbD 7 := BitVec.msb_eq_getLsbD_last r
  rw [crcBit, hmsb]
  simp only [bne_iff_ne, ne_eq, ite_not]

/-- Settles O21: each command that is a received frame has its frame, whose payload is read back. -/
theorem decodeEncode : Obligations.DecodeEncode := by
  refine ⟨fun i dest bytes hw hencoded => ?_, ⟨rfl, fun bytes b => ?_⟩, by decide, by decide⟩
  · have hframe : (encodeFrame 0 i).isSome = true := by rw [← encodeFrame_isSome dest, hencoded]; rfl
    obtain ⟨source, type, p, hcarried⟩ := exists_carriedBy hw hframe
    have hbytes : frameBytes dest source type p = bytes :=
      Option.some.inj ((hcarried.encoded dest).symm.trans hencoded)
    rw [← hbytes]
    exact decodeFrame_of_carriedBy hcarried dest
  · simp only [crc8_append, crcByte, List.foldl_cons, List.foldl_nil, crcBit_eq]

/-! ## Frames of a peer (11.4) -/

theorem attemptBytes_eq (now : Tick) (own dest retry : Nat) (started : Bool) (body : Body) :
    attemptBytes now own { dest := dest, body := body, retry := retry, started := started }
      = frameBytes (BitVec.ofNat 8 dest) (BitVec.ofNat 8 own) (bodyType body) (bodyPayload now body) :=
  rfl

theorem toNat_ofNat_of_lt {w n : Nat} (h : n < 2 ^ w) : (BitVec.ofNat w n).toNat = n := by
  rw [BitVec.toNat_ofNat, Nat.mod_eq_of_lt h]

theorem sideOfCode_sideCode (side : Side) : sideOfCode (sideCode side) = side := by
  cases side <;> rfl

/-- A stored tag sent to a peer is stored there as it was, its length clamped (R2). -/
theorem storedTag_wireTag {t : SheetTag} (h : t.length ≤ 6000) :
    storedTag (wireTag t) = { t with length := max 1000 t.length } := by
  have hlength : (BitVec.ofNat 13 t.length).toNat = t.length := toNat_ofNat_of_lt (by omega)
  have hclamp : clampTo 1000 6000 t.length = max 1000 t.length := by
    simp only [clampTo]
    omega
  simp only [storedTag, wireTag, sideOfCode_sideCode, hlength, hclamp]

/-- The JAM frame of a station's own report. -/
def jamFrameOf (c : JamContents) : JamFrame :=
  { kind := byteOf (kindCode c.report.kind)
    sensor := sensorByte c.report.sensor
    noSheet := c.report.sheetId.isNone
    sheetId := c.report.sheetId.getD 0
    rank := byteOf c.rank
    epoch := c.epoch }

theorem jamContentsPayload_eq (c : JamContents) : jamContentsPayload c = jamPayload (jamFrameOf c) := by
  obtain ⟨⟨kind, sensor, sheetId⟩, rank, epoch⟩ := c
  have hsome : BitVec.ofBool false ++ (0 : BitVec 3) = (0 : BitVec 4) := rfl
  have hnone : BitVec.ofBool true ++ (0 : BitVec 3) = (8 : BitVec 4) := rfl
  cases sheetId with
  | none => simp only [jamContentsPayload, jamPayload, jamFrameOf, optionalSheet, Option.isNone, Option.getD, hnone]
  | some id => simp only [jamContentsPayload, jamPayload, jamFrameOf, optionalSheet, Option.isNone, Option.getD, hsome]

theorem sensorOfByte_sensorByte {sensor : Option Nat} (h : ∀ k, sensor = some k → k ≤ 3) :
    (if (sensorByte sensor).toNat ≤ 3 then some (sensorByte sensor).toNat else none) = sensor := by
  cases sensor with
  | none => rfl
  | some k =>
    have hk : k ≤ 3 := h k rfl
    have hbyte : (sensorByte (some k)).toNat = k := toNat_ofNat_of_lt (by omega)
    rw [hbyte, if_pos hk]

/-- A report sent is read as it was (R88, R89). -/
theorem jamRead_jamFrameOf {c : JamContents} (h1 : 1 ≤ c.rank) (h14 : c.rank ≤ 14)
    (hsensor : ∀ k, c.report.sensor = some k → k ≤ 3) : jamRead (jamFrameOf c) = some c := by
  have hkind : (jamFrameOf c).kind.toNat = kindCode c.report.kind := by
    have hrange := kindCode_range c.report.kind
    exact toNat_ofNat_of_lt (by omega)
  have hrank : (jamFrameOf c).rank.toNat = c.rank := toNat_ofNat_of_lt (by omega)
  have hsheet : (if (jamFrameOf c).noSheet then none else some (jamFrameOf c).sheetId) = c.report.sheetId := by
    rw [jamFrameOf]
    cases c.report.sheetId <;> rfl
  rw [jamRead_of_defined hkind (by rw [hrank]; exact h1) (by rw [hrank]; exact h14), hsheet, hrank]
  exact congrArg (fun sensor => some (⟨⟨_, sensor, _⟩, _, _⟩ : JamContents)) (sensorOfByte_sensorByte hsensor)

/-- Settles O24: each payload is the encoding of the fields it was queued with, and is read back as them. -/
theorem peersReadWhatIsSent : Obligations.PeersReadWhatIsSent := by
  intro now own dest retry started _
  refine ⟨fun tag c hlength => ⟨?_, storedTag_wireTag hlength⟩, fun id => ?_, fun h => ?_, fun c h1 h14 hsensor => ?_⟩
  · rw [attemptBytes_eq, decodeFrame_frameBytes _ _ (by rfl)]
    exact congrArg _ (commandOfFrame_handoff _ 0 (wireTag tag) _)
  · rw [attemptBytes_eq, decodeFrame_frameBytes _ _ (by rfl)]
    exact congrArg _ (commandOfFrame_taken _ 0 id)
  · rw [attemptBytes_eq, decodeFrame_frameBytes _ _ (by rfl)]
    exact congrArg (fun f => Except.ok (Instr.hello _ f)) (helloOfPayload_helloPayload _)
  · refine ⟨jamFrameOf c, ?_, jamRead_jamFrameOf h1 h14 hsensor⟩
    have hpayload : bodyPayload now (.jam c) = jamPayload (jamFrameOf c) := jamContentsPayload_eq c
    rw [attemptBytes_eq, hpayload, decodeFrame_frameBytes _ _ (by rfl)]
    exact congrArg (fun f => Except.ok (Instr.jam _ f)) (jamOfPayload_jamPayload _)

end Sys2Proof.Laws
end

section
/-! PROOFS. The receive assembler: what each run of characters comes to, and each character and frame (9.1, 9.2). -/

namespace Sys2Proof.Laws

open Sys2Proof Sys2Proof.Machine Sys2Proof.Safety

/-! ## What a run of characters comes to (R147) -/

section Runs

variable {dest source code check : Byte} {p rest : List Byte}

theorem lengthByte_toNat (h : p.length ≤ 255) : (BitVec.ofNat 8 p.length).toNat = p.length :=
  toNat_ofNat_of_lt (by omega)

/-- The length is judged as soon as it has come. -/
theorem decodeFrame_of_above (h : p.length ≤ 255) (habove : 72 < p.length) :
    decodeFrame (dest :: source :: code :: BitVec.ofNat 8 p.length :: rest) = .error .lengthAbove72 := by
  simp only [decodeFrame, lengthByte_toNat h, if_pos habove]

/-- A frame cut short has shown no fault. -/
theorem decodeFrame_cutShort (h : p.length ≤ 72) {m : Nat} (hm : m < p.length + 5) :
    decodeFrame ((dest :: source :: code :: BitVec.ofNat 8 p.length :: (p ++ [check])).take m) = .error .idleGap := by
  match m with
  | 0 | 1 | 2 | 3 => rfl
  | m + 4 =>
    have hdrop : (List.take m (p ++ [check])).drop p.length = [] := by
      rw [List.drop_eq_nil_iff, List.length_take]
      omega
    simp only [List.take_succ_cons, decodeFrame, lengthByte_toNat (p := p) (by omega), if_neg (Nat.not_lt.2 h), hdrop]

theorem decodeFrame_of_crcDiffers (h : p.length ≤ 72)
    (hcrc : check ≠ crc8 ([dest, source, code, BitVec.ofNat 8 p.length] ++ p)) :
    decodeFrame (dest :: source :: code :: BitVec.ofNat 8 p.length :: (p ++ check :: rest)) = .error .crcDiffers := by
  simp only [decodeFrame, lengthByte_toNat (p := p) (by omega), if_neg (Nat.not_lt.2 h), List.drop_left',
    List.take_left', if_pos hcrc]

theorem decodeFrame_of_unknownType (h : p.length ≤ 72)
    (hcrc : check = crc8 ([dest, source, code, BitVec.ofNat 8 p.length] ++ p)) (hcode : typeOfCode code = none) :
    decodeFrame (dest :: source :: code :: BitVec.ofNat 8 p.length :: (p ++ check :: rest)) = .error .unknownType := by
  simp only [decodeFrame, lengthByte_toNat (p := p) (by omega), if_neg (Nat.not_lt.2 h), List.drop_left',
    List.take_left', if_neg (not_not.2 hcrc), hcode]

/-- After a good CRC a frame of a known type is judged by its length. -/
theorem decodeFrame_of_type {type : FrameType} (h : p.length ≤ 72)
    (hcrc : check = crc8 ([dest, source, code, BitVec.ofNat 8 p.length] ++ p)) (hcode : typeOfCode code = some type) :
    decodeFrame (dest :: source :: code :: BitVec.ofNat 8 p.length :: (p ++ check :: rest))
      = if (payloadLengths type).contains p.length then .ok (commandOfFrame source p type)
        else .error .lengthNotAllowed := by
  simp only [decodeFrame, lengthByte_toNat (p := p) (by omega), if_neg (Nat.not_lt.2 h), List.drop_left',
    List.take_left', if_neg (not_not.2 hcrc), hcode]

end Runs

theorem typeOfCode_some {code : Byte} {type : FrameType} (h : typeOfCode code = some type) : typeCode type = code :=
  beq_iff_eq.1 (List.find?_some (p := fun t => typeCode t == code) h)

theorem typeOfCode_none {code : Byte} (h : ∀ type, typeCode type ≠ code) : typeOfCode code = none :=
  List.find?_eq_none.2 fun type _ htype => h type (beq_iff_eq.1 htype)

/-- A frame of a report type, whole, with a length that its type does not allow. -/
theorem decodeFrame_not_allowed (dest source : Byte) {type : FrameType} {p : List Byte} (hp : p.length ≤ 255)
    (h : ¬(payloadLengths type).contains p.length = true) :
    ∃ fault, (fault = .lengthAbove72 ∨ fault = .lengthNotAllowed)
      ∧ decodeFrame (frameBytes dest source type p) = .error fault := by
  rw [frameBytes_cons]
  by_cases habove : 72 < p.length
  · exact ⟨_, .inl rfl, decodeFrame_of_above hp habove⟩
  · exact ⟨_, .inr rfl,
      (decodeFrame_of_type (rest := []) (by omega) rfl (typeOfCode_typeCode type)).trans (if_neg h)⟩

/-- Characters after a whole frame are not looked at. -/
theorem decodeFrame_frameBytes_append (dest source : Byte) {type : FrameType} {p : List Byte} (rest : List Byte)
    (h : (payloadLengths type).contains p.length = true) :
    decodeFrame (frameBytes dest source type p ++ rest) = .ok (commandOfFrame source p type) := by
  have hcons : ∀ check, (dest :: source :: typeCode type :: BitVec.ofNat 8 p.length :: (p ++ [check])) ++ rest
      = dest :: source :: typeCode type :: BitVec.ofNat 8 p.length :: (p ++ check :: rest) := fun check => by simp
  rw [frameBytes_cons, hcons, decodeFrame_of_type (length_of_allowed h) rfl (typeOfCode_typeCode type), if_pos h]

/-- A run that reads as a command begins with a whole frame of that command. -/
theorem exists_frame_of_decodeFrame {bytes : List Byte} {i : Instr} (h : decodeFrame bytes = .ok i) :
    ∃ dest source type p rest, bytes = frameBytes dest source type p ++ rest
      ∧ (payloadLengths type).contains p.length = true ∧ commandOfFrame source p type = i := by
  unfold decodeFrame at h
  split at h
  · next dest source code length tail =>
    simp only at h
    split_ifs at h with habove
    split at h
    · cases h
    · next check rest hdrop =>
      split_ifs at h with hcrc
      split at h
      · cases h
      · next type htype =>
        split_ifs at h with hallowed
        have htail : tail = tail.take length.toNat ++ check :: rest := by rw [← hdrop, List.take_append_drop]
        have hlength : (tail.take length.toNat).length = length.toNat := by
          have hpos : 0 < (tail.drop length.toNat).length := by rw [hdrop]; simp
          rw [List.length_drop] at hpos
          rw [List.length_take]
          omega
        have hbyte : BitVec.ofNat 8 (tail.take length.toNat).length = length := by
          rw [hlength, BitVec.ofNat_toNat, BitVec.setWidth_eq]
        refine ⟨dest, source, type, tail.take length.toNat, rest, ?_, by rw [hlength]; exact hallowed,
          Except.ok.inj h⟩
        rw [frameBytes_cons, hbyte, typeOfCode_some htype, ← not_not.1 hcrc]
        simpa using htail
  · cases h

/-! ## The rest of a frame -/

theorem frameBytes_eq (dest source : Byte) (type : FrameType) (p : List Byte) :
    frameBytes dest source type p
      = (dest :: source :: typeCode type :: BitVec.ofNat 8 p.length :: p)
        ++ [crc8 (dest :: source :: typeCode type :: BitVec.ofNat 8 p.length :: p)] :=
  rfl

/-- The characters held, with the rest of the frame as it is encoded to 0, are those before the CRC. -/
theorem take_append_rest (dest source : Byte) (type : FrameType) {p : List Byte} {k : Nat} (h1 : 1 ≤ k)
    (hk : k < p.length + 5) :
    (frameBytes dest source type p).take k ++ ((frameBytes 0 source type p).drop k).dropLast
      = dest :: source :: typeCode type :: BitVec.ofNat 8 p.length :: p := by
  obtain ⟨k, rfl⟩ := Nat.exists_eq_add_of_le' h1
  have hle : ∀ d : Byte, k + 1 ≤ (d :: source :: typeCode type :: BitVec.ofNat 8 p.length :: p).length := by
    intro d
    simp only [List.length_cons]
    omega
  rw [frameBytes_eq, frameBytes_eq, List.take_append_of_le_length (hle dest), List.drop_append_of_le_length (hle 0),
    List.dropLast_concat, List.drop_succ_cons, List.take_succ_cons, List.cons_append, List.take_append_drop]

/-- A frame held in part is completed as it was begun. -/
theorem frameFrom_take {dest source : Byte} {type : FrameType} {p : List Byte} {i : Instr} {k : Nat}
    (hi : encodeFrame 0 i = some (frameBytes 0 source type p)) (h1 : 1 ≤ k) (hk : k < p.length + 5) :
    frameFrom ((frameBytes dest source type p).take k) i = frameBytes dest source type p := by
  have hlength : ((frameBytes dest source type p).take k).length = k := by
    rw [List.length_take, frameBytes_length]
    omega
  simp only [frameFrom, hi, hlength, take_append_rest dest source type h1 hk]
  rfl

/-- The characters held begin the frame they were taken from. -/
theorem beginsFrame_take {dest source : Byte} {type : FrameType} {p : List Byte} {i : Instr} {k : Nat}
    (hi : ∀ d, encodeFrame d i = some (frameBytes d source type p)) (h1 : 1 ≤ k) :
    beginsFrame ((frameBytes dest source type p).take k) i = true := by
  have hhead : ((frameBytes dest source type p).take k).headD 0 = dest := by
    obtain ⟨k, rfl⟩ := Nat.exists_eq_add_of_le' h1
    rfl
  simp only [beginsFrame, hhead, hi, List.isPrefixOf_iff_prefix]
  exact List.take_prefix k _

/-- A command's frame is as long as the one it was read from. -/
theorem encodeFrame_commandOfFrame {source : Byte} {type : FrameType} {p : List Byte}
    (h : (payloadLengths type).contains p.length = true) :
    ∃ q, q.length = p.length ∧ encodeFrame 0 (commandOfFrame source p type) = some (frameBytes 0 source type q) := by
  have hmem : p.length ∈ payloadLengths type := List.contains_iff_mem.1 h
  cases type with
  | setup =>
    have hlength : (setupPayload (setupOfPayload p)).length = 39 := by rw [← setupUnused_zero, setupUnused_length]
    exact ⟨_, hlength.trans (List.mem_singleton.1 hmem).symm, rfl⟩
  | hello => exact ⟨helloPayload (helloOfPayload p), (List.mem_singleton.1 hmem).symm, rfl⟩
  | launch => exact ⟨tagBytes 0 (tagAt p 1), (List.mem_singleton.1 hmem).symm, rfl⟩
  | handoff => exact ⟨tagBytes 0 (tagAt p 1) ++ halfBytes (halfAt p 8), (List.mem_singleton.1 hmem).symm, rfl⟩
  | taken =>
    exact ⟨halfBytes ((0 : BitVec 4) ++ (halfAt p 1).extractLsb' 0 12), (List.mem_singleton.1 hmem).symm, rfl⟩
  | speed => exact ⟨halfBytes (halfAt p 1), (List.mem_singleton.1 hmem).symm, rfl⟩
  | resume => exact ⟨[byteAt p 1], (List.mem_singleton.1 hmem).symm, rfl⟩
  | restart => exact ⟨[], (List.mem_singleton.1 hmem).symm, rfl⟩
  | query =>
    cases hbit : (byteAt p 1).getLsbD 0 with
    | false => exact ⟨[0], (List.mem_singleton.1 hmem).symm, by simp only [commandOfFrame, hbit]; rfl⟩
    | true => exact ⟨[1], (List.mem_singleton.1 hmem).symm, by simp only [commandOfFrame, hbit]; rfl⟩
  | jam => exact ⟨jamPayload (jamOfPayload p), (List.mem_singleton.1 hmem).symm, rfl⟩
  | census | notice | status => exact ⟨p, rfl, rfl⟩

end Sys2Proof.Laws
end

section
/-! PROOFS. What each character and each frame does to the station (9.1, 9.2). -/

namespace Sys2Proof.Laws

open Sys2Proof Sys2Proof.Machine Sys2Proof.Safety

/-! ## A frame that is awaited (R148) -/

/-- A command that is a received frame acts by its frame. -/
theorem exec_of_frame {i : Instr} (h : (encodeFrame 0 i).isSome = true) (s : State) : exec i s = onFrame i s := by
  cases i with
  | setup | hello | launch | handoff | taken | speed | resume | restart | queryStatus | queryCensus | jam
  | untakenFrame => rfl
  | hardwareReset | resetRelease | sensorInputChange | filterConfirm | rawEdge | coverInputChange | coverConfirm
  | haltLineChange | leadExpiry | trailExpiry | takeExpiry | decideTimerExpiry | stopSettleExpiry | coverSettleExpiry
  | frameAbandon | assemblerIdle | transmitStart | collision | transmitComplete | markedCharacter => cases h

/-- A whole frame is held, but for its last character or with characters after it: no rest is to come. -/
theorem awaits_of_whole {s : State} {i : Instr} {bytes : List Byte} (htaking : s.link.assembler = .taking)
    (hne : s.link.collecting ≠ []) (hencoded : encodeFrame 0 i = some bytes)
    (hlength : bytes.length ≤ s.link.collecting.length + 1)
    (hread : decodeFrame (s.link.collecting ++ [crc8 s.link.collecting]) = .ok i) : Awaits s i := by
  have hrest : (bytes.drop s.link.collecting.length).dropLast = [] := by
    rw [← List.length_eq_zero_iff, List.length_dropLast, List.length_drop]
    omega
  refine ⟨htaking, hne, bytes, hencoded, ?_⟩
  rw [hrest, List.append_nil]
  exact hread

/-- A frame that one more character ends is awaited as the command it reads as. -/
theorem awaits_of_decodeFrame {s : State} {i : Instr} {last : Byte} (htaking : s.link.assembler = .taking)
    (h : decodeFrame (s.link.collecting ++ [last]) = .ok i) : Awaits s i ∧ (encodeFrame 0 i).isSome = true := by
  obtain ⟨dest, source, type, p, rest, hbytes, hallowed, rfl⟩ := exists_frame_of_decodeFrame h
  obtain ⟨q, hq, hencoded⟩ := encodeFrame_commandOfFrame (source := source) hallowed
  have hlength : s.link.collecting.length + 1 = p.length + 5 + rest.length := by
    have hlengths := congrArg List.length hbytes
    rwa [List.length_append, List.length_append, frameBytes_length] at hlengths
  have hne : s.link.collecting ≠ [] := by
    rw [← List.length_pos_iff_ne_nil]
    omega
  refine ⟨awaits_of_whole htaking hne hencoded (by rw [frameBytes_length]; omega) ?_, by rw [hencoded]; rfl⟩
  rcases List.eq_nil_or_concat rest with rfl | ⟨more, final, rfl⟩
  · rw [List.append_nil, frameBytes_eq] at hbytes
    obtain ⟨hheld, -⟩ := List.append_inj' hbytes rfl
    rw [hheld, ← frameBytes_eq]
    exact decodeFrame_frameBytes dest source hallowed
  · rw [List.concat_eq_append, ← List.append_assoc] at hbytes
    obtain ⟨hheld, -⟩ := List.append_inj' hbytes rfl
    rw [hheld, List.append_assoc]
    exact decodeFrame_frameBytes_append dest source _ hallowed

/-- The characters held begin the frame of a command: it is awaited, at its end too. -/
theorem awaits_of_beginsFrame {s : State} {i : Instr} {source : Byte} {type : FrameType} {p : List Byte}
    (hi : CarriedBy i source type p) (htaking : s.link.assembler = .taking) (hne : s.link.collecting ≠ [])
    (h : beginsFrame s.link.collecting i = true) : Awaits s i := by
  have hprefix : s.link.collecting <+: frameBytes (s.link.collecting.headD 0) source type p := by
    simp only [beginsFrame, hi.encoded, List.isPrefixOf_iff_prefix] at h
    exact h
  have htake := List.prefix_iff_eq_take.1 hprefix
  have hle := hprefix.length_le
  rw [frameBytes_length] at hle
  rcases hle.lt_or_eq with hlt | heq
  · exact awaits_of_take htaking hi.encoded hi.allowed hi.read (List.length_pos_iff_ne_nil.2 hne) hlt htake
  · have hwhole : s.link.collecting = frameBytes (s.link.collecting.headD 0) source type p :=
      hprefix.eq_of_length (by rw [frameBytes_length, heq])
    refine awaits_of_whole htaking hne (hi.encoded 0) (by rw [frameBytes_length]; omega) ?_
    rw [hwhole, decodeFrame_frameBytes_append _ _ _ hi.allowed, hi.read]

/-- The command of a frame that is not the one being collected changes nothing (log 3). -/
theorem onFrame_of_not_awaits {s : State} {i : Instr} {source : Byte} {type : FrameType} {p : List Byte}
    (hr : s.inReset = false) (hi : CarriedBy i source type p) (htaking : s.link.assembler = .taking)
    (hne : s.link.collecting ≠ []) (h : ¬Awaits s i) : onFrame i s = .next s := by
  unfold onFrame
  rw [whileRunning_of_running hr, htaking]
  simp only
  cases hread : decodeFrame (frameFrom s.link.collecting i) with
  | ok j =>
    have hj : j ≠ i := by
      rintro rfl
      rw [frameFrom, hi.encoded] at hread
      exact h ⟨htaking, hne, _, hi.encoded 0, hread⟩
    simp only [if_neg hj]
  | error fault =>
    have hbegins : ¬beginsFrame s.link.collecting i = true := fun hb => h (awaits_of_beginsFrame hi htaking hne hb)
    simp only [if_neg hbegins]

/-- The command of a frame that is being collected, with a fault, abandons it. -/
theorem onFrame_of_fault {s : State} {i : Instr} {fault : ReceiveFault} (hr : s.inReset = false)
    (htaking : s.link.assembler = .taking) (hread : decodeFrame (frameFrom s.link.collecting i) = .error fault)
    (hbegins : beginsFrame s.link.collecting i = true) : onFrame i s = .next (s.abandonFrame fault) := by
  unfold onFrame
  rw [whileRunning_of_running hr, htaking]
  simp only [hread, if_pos hbegins]

/-! ## One character (R144, R145, R147) -/

theorem addressed_iff (s : State) (value : Byte) :
    s.addressed value = true ↔ value = 15 ∨ s.stationNumber = some value.toNat := by
  have hall : value = 15 ↔ value.toNat = broadcast := BitVec.toNat_inj.symm
  rw [State.addressed, Bool.or_eq_true, beq_iff_eq, beq_iff_eq, hall]

theorem beginFrame_of_addressed {s : State} {value : Byte} (h : s.addressed value = true) :
    s.beginFrame value
      = { s with
          link := { s.link with assembler := .taking, collecting := [value], idleCount := 0, charClock := 0 } } := by
  simp only [State.beginFrame, State.updLink, if_pos h]
  rfl

theorem beginFrame_of_not_addressed {s : State} {value : Byte} (h : ¬s.addressed value = true) :
    s.beginFrame value
      = { s with
          link := { s.link with assembler := .passing, collecting := [], idleCount := 0, charClock := 0 } } := by
  simp only [State.beginFrame, State.updLink, if_neg h]
  rfl

theorem exec_character {s : State} (hr : s.inReset = false) (c : Character) :
    exec (.frameAbandon (some c)) s = .next (s.receive c) :=
  whileRunning_of_running (f := fun s => s.receive c) hr

theorem exec_marked {s : State} (hr : s.inReset = false) (value : Byte) :
    exec (.markedCharacter value) s = .next (s.receive (marked value)) :=
  whileRunning_of_running (f := fun s => s.receive (marked value)) hr

theorem receive_begins {s : State} (h : s.link.assembler ≠ .taking) {c : Character} (hmark : c.mark = true)
    (hstop : c.stop = true) : s.receive c = s.beginFrame c.data :=
  (receive_of_not_taking h c).trans (if_pos ⟨hmark, hstop⟩)

theorem receive_letBy {s : State} (h : s.link.assembler ≠ .taking) {c : Character}
    (hc : c.mark = false ∨ c.stop = false) : s.receive c = s.letBy := by
  refine (receive_of_not_taking h c).trans (if_neg ?_)
  rintro ⟨hmark, hstop⟩
  simp [hmark, hstop] at hc

theorem receive_of_framing {s : State} (h : s.link.assembler = .taking) {c : Character} (hstop : c.stop = false) :
    s.receive c = s.abandonFrame .framing := by
  simp only [State.receive, h, collect, framingError, hstop, Bool.not_false, if_true]

theorem receive_of_mark {s : State} (h : s.link.assembler = .taking) {c : Character} (hmark : c.mark = true)
    (hstop : c.stop = true) : s.receive c = s.abandonFrame (.marked c.data) := by
  simp [State.receive, h, collect, framingError, hstop, hmark]

theorem receive_of_ok {s : State} (h : s.link.assembler = .taking) {c : Character} (hmark : c.mark = false)
    (hstop : c.stop = true) {i : Instr} (hread : decodeFrame (s.link.collecting ++ [c.data]) = .ok i) :
    s.receive c = s.frameEnded.handToOwner i := by
  simp [State.receive, h, collect, framingError, hstop, hmark, hread]

theorem receive_of_gap {s : State} (h : s.link.assembler = .taking) {c : Character} (hmark : c.mark = false)
    (hstop : c.stop = true) (hread : decodeFrame (s.link.collecting ++ [c.data]) = .error .idleGap) :
    s.receive c = s.keepCollecting (s.link.collecting ++ [c.data]) := by
  simp [State.receive, h, collect, framingError, hstop, hmark, hread]

theorem receive_of_error {s : State} (h : s.link.assembler = .taking) {c : Character} (hmark : c.mark = false)
    (hstop : c.stop = true) {fault : ReceiveFault} (hgap : fault ≠ .idleGap)
    (hread : decodeFrame (s.link.collecting ++ [c.data]) = .error fault) : s.receive c = s.abandonFrame fault := by
  cases fault with
  | idleGap => exact absurd rfl hgap
  | framing | lengthAbove72 | crcDiffers | unknownType | lengthNotAllowed | marked =>
    simp [State.receive, h, collect, framingError, hstop, hmark, hread]

/-- No run of characters without a mark shows the fault of a mark. -/
theorem decodeFrame_ne_marked (bytes : List Byte) (value : Byte) : decodeFrame bytes ≠ .error (.marked value) := by
  intro h
  unfold decodeFrame at h
  split at h
  · simp only at h
    split_ifs at h
    · cases h
    · split at h
      · cases h
      · split_ifs at h
        · cases h
        · split at h
          · cases h
          · split_ifs at h
            cases h
  · cases h

/-! ## Gaps (R145, R147) -/

theorem exec_gap {s : State} (hr : s.inReset = false) (h : s.link.assembler = .taking) (hidle : 2 < s.link.idleCount) :
    exec (.frameAbandon none) s = .next (s.abandonFrame .idleGap) :=
  (whileRunning_of_running hr).trans (congrArg _ (if_pos ⟨h, decide_eq_true hidle⟩))

theorem exec_gap_of_none {s : State} (hr : s.inReset = false) (h : s.link.assembler ≠ .taking ∨ s.link.idleCount ≤ 2) :
    exec (.frameAbandon none) s = .next s := by
  refine (whileRunning_of_running hr).trans (congrArg _ (if_neg ?_))
  rintro ⟨htaking, hgap⟩
  have hidle : 2 < s.link.idleCount := of_decide_eq_true hgap
  exact h.elim (fun h => h htaking) (by omega)

theorem exec_idle {s : State} (hr : s.inReset = false) (h : s.link.assembler = .passing)
    (hidle : 2 < s.link.idleCount) :
    exec (.assemblerIdle s.link.idleCount) s = .next (s.updLink fun l => { l with assembler := .waiting }) :=
  (whileRunning_of_running hr).trans (congrArg _ (if_pos ⟨h, rfl, decide_eq_true hidle⟩))

theorem exec_idle_of_none {s : State} (hr : s.inReset = false) {idle : Nat}
    (h : s.link.assembler ≠ .passing ∨ s.link.idleCount ≤ 2 ∨ idle ≠ s.link.idleCount) :
    exec (.assemblerIdle idle) s = .next s := by
  refine (whileRunning_of_running hr).trans (congrArg _ (if_neg ?_))
  rintro ⟨hpassing, hcount, hgap⟩
  have hidle : 2 < s.link.idleCount := of_decide_eq_true hgap
  rcases h with h | h | h
  · exact h hpassing
  · omega
  · exact h hcount.symm

/-! ## The obligation -/

/-- A fault of a frame's bytes ends it, with one count. -/
theorem abandonFrame_of_bytes (s : State) {fault : ReceiveFault} (hgap : fault ≠ .idleGap)
    (hmark : ∀ value, fault ≠ .marked value) : s.abandonFrame fault = (s.count .receiveError).frameEnded := by
  cases fault with
  | idleGap => exact absurd rfl hgap
  | marked value => exact absurd rfl (hmark value)
  | framing | lengthAbove72 | crcDiffers | unknownType | lengthNotAllowed => rfl

/-- Settles O57: the assembler's cases, character by character, and the runs that show each fault. -/
theorem framesAssembled : Obligations.FramesAssembled := by
  intro s hr mine seen abandoned
  have hmine : ∀ value, mine value ↔ s.addressed value = true := fun value => (addressed_iff s value).symm
  refine ⟨fun c => ⟨fun hmark hstop => ⟨?_, fun h => ⟨fun hto => ?_, fun hto => ?_⟩,
        fun h => ⟨fun hto => ?_, fun hto => ?_⟩⟩,
      fun hc h => ?_, fun hstop h => ?_,
      fun hmark hstop h => ⟨fun fault hgap hread => ?_, fun hread => ?_, fun i hread => ?_⟩⟩,
    fun i hi h => ?_, fun h hidle => exec_gap hr h hidle, fun h => exec_gap_of_none hr h,
    fun h hidle => exec_idle hr h hidle, fun idle h => exec_idle_of_none hr h, fun i hi hw h hne hawaits => ?_,
    fun dest source type p k hp hw h h1 hk hheld => ?_, fun dest source code check p hp => ?_⟩
  · have hsame : c = marked c.data := by
      obtain ⟨data, mark, stop⟩ := c
      simp only at hmark hstop
      rw [hmark, hstop, marked]
    rw [exec_character hr, exec_marked hr, ← hsame]
  · rw [exec_character hr, receive_begins h hmark hstop, beginFrame_of_addressed ((hmine _).1 hto)]
  · rw [exec_character hr, receive_begins h hmark hstop, beginFrame_of_not_addressed (mt (hmine _).2 hto)]
  · rw [exec_character hr, receive_of_mark h hmark hstop, State.abandonFrame]
    exact congrArg _ (beginFrame_of_addressed (s := s.count .receiveError) ((hmine _).1 hto))
  · rw [exec_character hr, receive_of_mark h hmark hstop, State.abandonFrame]
    exact congrArg _ (beginFrame_of_not_addressed (s := s.count .receiveError) (mt (hmine _).2 hto))
  · rw [exec_character hr, receive_letBy h hc]
    rfl
  · rw [exec_character hr, receive_of_framing h hstop]
    rfl
  · have hbytes := abandonFrame_of_bytes s hgap fun value hfault =>
      decodeFrame_ne_marked _ value (hfault ▸ hread)
    rw [exec_character hr, receive_of_error h hmark hstop hgap hread, hbytes]
    rfl
  · rw [exec_character hr, receive_of_gap h hmark hstop hread, ← h]
    rfl
  · obtain ⟨hawaits, hframe⟩ := awaits_of_decodeFrame h hread
    refine ⟨hawaits, ?_⟩
    rw [exec_character hr, receive_of_ok h hmark hstop hread, exec_of_frame hframe, onFrame_of_awaits hr hawaits]
  · rw [exec_of_frame hi, onFrame_of_not_taking hr h]
    rfl
  · obtain ⟨source, type, p, hcarried⟩ := exists_carriedBy hw hi
    rw [exec_of_frame hi, onFrame_of_not_awaits hr hcarried h hne hawaits]
  · have hencoded : ∀ d, encodeFrame d (.untakenFrame source type p)
        = some (frameBytes d source (reportFrameType type) p) := fun _ => rfl
    have hnot : ¬(payloadLengths (reportFrameType type)).contains p.length = true := by
      cases type <;> exact Bool.eq_false_iff.1 hw
    obtain ⟨fault, hfault, hread⟩ := decodeFrame_not_allowed dest source hp hnot
    rw [← frameFrom_take (hencoded 0) h1 hk, ← hheld] at hread
    have hbegins := beginsFrame_take (dest := dest) (p := p) hencoded h1
    rw [← hheld] at hbegins
    rw [exec_of_frame (by rw [hencoded]; rfl), onFrame_of_fault hr h hread hbegins]
    rcases hfault with rfl | rfl <;> rfl
  · have hframe : [dest, source, code, BitVec.ofNat 8 p.length] ++ p ++ [check]
        = dest :: source :: code :: BitVec.ofNat 8 p.length :: (p ++ [check]) := rfl
    have hlength : (dest :: source :: code :: BitVec.ofNat 8 p.length :: (p ++ [check])).length = p.length + 5 := by
      simp
    simp only [hframe, hlength]
    refine ⟨decodeFrame_of_above hp, fun h => ⟨fun m hm => decodeFrame_cutShort h hm, decodeFrame_of_crcDiffers h,
      fun hcrc => ⟨fun hcode => decodeFrame_of_unknownType h hcrc (typeOfCode_none hcode), fun type hcode => ?_⟩⟩⟩
    subst hcode
    have hread := decodeFrame_of_type (rest := []) h hcrc (typeOfCode_typeCode type)
    exact ⟨fun hlen => hread.trans (if_neg (mt List.contains_iff_mem.1 hlen)),
      fun hlen => hread.trans (if_pos (List.contains_iff_mem.2 hlen))⟩

end Sys2Proof.Laws
end

section
/-! PROOFS. The bytes of what the station sends (11.1, 11.2, 11.5). -/

namespace Sys2Proof.Laws

open Sys2Proof Sys2Proof.Machine Sys2Proof.Safety

/-! ## Numbers as bytes (R170) -/

theorem toNat_append {m n : Nat} (x : BitVec m) (y : BitVec n) : (x ++ y).toNat = 2 ^ n * x.toNat + y.toNat := by
  rw [BitVec.toNat_append, Nat.shiftLeft_eq, Nat.mul_comm, Nat.two_pow_add_eq_or_of_lt y.isLt]

theorem halfBytes_eq (w : Half) : halfBytes w = twoBytes w.toNat := by
  have hhigh : w.extractLsb' 8 8 = BitVec.ofNat 8 (w.toNat / 256) := by
    rw [BitVec.extractLsb', Nat.shiftRight_eq_div_pow]
  have hlow : w.extractLsb' 0 8 = BitVec.ofNat 8 w.toNat := by
    rw [BitVec.extractLsb', Nat.shiftRight_zero]
  rw [halfBytes, twoBytes, hhigh, hlow]

theorem twoBytes_mod (n : Nat) : twoBytes (n % 65536) = twoBytes n := by
  have hhigh : BitVec.ofNat 8 (n % 65536 / 256) = BitVec.ofNat 8 (n / 256) := by
    refine BitVec.eq_of_toNat_eq ?_
    rw [BitVec.toNat_ofNat, BitVec.toNat_ofNat]
    omega
  have hlow : BitVec.ofNat 8 (n % 65536) = BitVec.ofNat 8 n := by
    refine BitVec.eq_of_toNat_eq ?_
    rw [BitVec.toNat_ofNat, BitVec.toNat_ofNat]
    omega
  rw [twoBytes, twoBytes, hhigh, hlow]

theorem numberBytes_eq (n : Nat) : numberBytes n = twoBytes n := by
  rw [numberBytes, halfBytes_eq, BitVec.toNat_ofNat]
  exact twoBytes_mod n

theorem signedBytes_eq (v : Int) : signedBytes v = twoSigned v := by
  have hhigh : BitVec.ofNat 8 ((v % 65536).toNat / 256) = BitVec.ofInt 8 (v / 256) := by
    refine BitVec.eq_of_toNat_eq ?_
    rw [BitVec.toNat_ofNat, BitVec.toNat_ofInt]
    omega
  have hlow : BitVec.ofNat 8 (v % 65536).toNat = BitVec.ofInt 8 v := by
    refine BitVec.eq_of_toNat_eq ?_
    rw [BitVec.toNat_ofNat, BitVec.toNat_ofInt]
    omega
  have hword : (BitVec.ofInt 16 v).toNat = (v % 65536).toNat := BitVec.toNat_ofInt v
  rw [signedBytes, halfBytes_eq, hword, twoBytes, twoSigned, hhigh, hlow]

/-- A field with its high bits 0 is its number. -/
theorem halfBytes_zero_append (x : BitVec 12) : halfBytes ((0 : BitVec 4) ++ x) = twoBytes x.toNat := by
  rw [halfBytes_eq, toNat_append]
  exact congrArg twoBytes (Nat.zero_add _)

/-! ## Codes (11.2) -/

theorem stateCode_eq (st : PathState) : stateCode st = stateNumber st := by
  cases st <;> rfl

theorem kindCodeOf_eq (kind : Option JamKind) : kindCodeOf kind = kindNumber kind := by
  cases kind with
  | none => rfl
  | some kind => cases kind <;> rfl

theorem causeCode_eq (cause : Cause) : causeCode cause = causeNumber cause := by
  cases cause <;> rfl

theorem reasonCode_eq (reason : RefuseReason) : reasonCode reason = reasonNumber reason := by
  cases reason <;> rfl

theorem sideCode_toNat (side : Side) : (sideCode side).toNat = [Side.simplex, .front, .back].idxOf side := by
  cases side <;> rfl

/-- The extra bits of an entry's tag: its fate and jam flag (R171). -/
theorem entryBits_toNat (fate : Fate) (jamFlag : Bool) :
    (fateCode fate ++ BitVec.ofBool jamFlag ++ (0 : BitVec 1)).toNat
      = 4 * fateNumber fate + if jamFlag then 2 else 0 := by
  cases fate <;> cases jamFlag <;> rfl

/-- The extra bits of the last-delivered tag: its presence, the LOCKOUT flag and the cause code. -/
theorem headerBits_toNat (present lockout : Bool) (cause : Cause) :
    (BitVec.ofBool present ++ BitVec.ofBool lockout ++ headerCause (some cause)).toNat
      = (if present then 8 else 0) + ((if lockout then 4 else 0) + causeNumber cause) := by
  cases present <;> cases lockout <;> cases cause <;> rfl

theorem tagBytes_eq (extra : BitVec 4) {t : SheetTag} (h : t.length < 8192) :
    tagBytes extra (wireTag t) = packedTag extra.toNat t := by
  have hheavy : (BitVec.ofBool t.heavy).toNat = if t.heavy then 1 else 0 := by cases t.heavy <;> rfl
  have hlength : (BitVec.ofNat 13 t.length).toNat = t.length := toNat_ofNat_of_lt (by omega)
  have hword : (sideCode t.side ++ BitVec.ofBool t.heavy ++ BitVec.ofNat 13 t.length).toNat
      = 16384 * [Side.simplex, .front, .back].idxOf t.side + (if t.heavy then 8192 else 0) + t.length := by
    rw [toNat_append, toNat_append, sideCode_toNat, hheavy, hlength]
    split <;> omega
  simp only [tagBytes, packedTag, wireTag, halfBytes_eq, hword, toNat_append, Nat.reducePow]

/-! ## NOTICE (11.5) -/

theorem noticeBytes (id : SheetId) (k : Nat) (dev : Int) (length removed : Nat) (epoch : Byte) (st : PathState)
    (covered : BitVec 4) (reason : RefuseReason) :
    noticePayload (.slip id k dev) = [1] ++ twoBytes id.toNat ++ [BitVec.ofNat 8 k] ++ twoSigned dev
      ∧ noticePayload (.traceLead id k dev) = [2] ++ twoBytes id.toNat ++ [BitVec.ofNat 8 k, 0] ++ twoSigned dev
      ∧ noticePayload (.traceTrail id k length)
          = [2] ++ twoBytes id.toNat ++ [BitVec.ofNat 8 k, 1] ++ twoBytes length
      ∧ noticePayload (.refused id reason) = [3] ++ twoBytes id.toNat ++ [BitVec.ofNat 8 (reasonNumber reason)]
      ∧ noticePayload (.clear epoch removed st)
          = [4, epoch, BitVec.ofNat 8 removed, BitVec.ofNat 8 (stateNumber st)]
      ∧ noticePayload (.residue epoch st covered)
          = [5, epoch, BitVec.ofNat 8 (stateNumber st), BitVec.ofNat 8 covered.toNat] := by
  have hcovered : (0 : BitVec 4) ++ covered = BitVec.ofNat 8 covered.toNat := by
    refine BitVec.eq_of_toNat_eq ?_
    rw [toNat_append, toNat_ofNat_of_lt (by omega)]
    exact Nat.zero_add _
  simp only [noticePayload, sheetField, byteOf, halfBytes_zero_append, signedBytes_eq, numberBytes_eq, reasonCode_eq,
    stateCode_eq, hcovered, and_self]

/-! ## CENSUS (11.5, R171) -/

/-- The pair code at a place of a part, 0 where there is no entry. -/
def pairAt (entries : List CensusEntry) (j : Nat) : Nat :=
  (entries[j]?.map pairNumber).getD 0

theorem pairBytes_eq (entries : List CensusEntry) :
    pairBytes entries
      = (List.range ((entries.length + 1) / 2)).map fun j =>
          BitVec.ofNat 8 (16 * pairAt entries (2 * j) + pairAt entries (2 * j + 1)) := by
  induction entries using pairBytes.induct with
  | case1 => rfl
  | case2 e =>
    have hone : ([e].length + 1) / 2 = 1 := by rw [List.length_singleton]
    rw [pairBytes, hone, List.range_one, List.map_singleton]
    exact congrArg (fun n => [BitVec.ofNat 8 n]) (Nat.mul_comm (pairCode e) 16)
  | case3 e e' rest ih =>
    have hcount : ((e :: e' :: rest).length + 1) / 2 = (rest.length + 1) / 2 + 1 := by
      simp only [List.length_cons]
      omega
    rw [pairBytes, ih, hcount, List.range_succ_eq_map, List.map_cons, List.map_map, Nat.mul_comm]
    rfl

theorem pairBytes_length (entries : List CensusEntry) : (pairBytes entries).length = (entries.length + 1) / 2 := by
  rw [pairBytes_eq, List.length_map, List.length_range]

theorem entryTagBytes_eq {e : CensusEntry} (h : e.tag.length < 8192) :
    entryTagBytes e = packedTag (4 * fateNumber e.fate + if e.jamFlag then 2 else 0) e.tag := by
  rw [entryTagBytes, tagBytes_eq _ h, entryBits_toNat]

/-- Bytes 6 to 12 of a census header. -/
theorem lastDelivered_present {h : CensusHeader} {t : SheetTag} {cause : Cause} (ht : h.lastDelivered = some t)
    (hcause : h.cause = some cause) (hlength : t.length < 8192) :
    lastDeliveredBytes h = packedTag (8 + ((if h.lockout then 4 else 0) + causeNumber cause)) t := by
  simp only [lastDeliveredBytes, ht, hcause]
  rw [tagBytes_eq _ hlength, headerBits_toNat]
  rfl

theorem lastDelivered_absent {h : CensusHeader} {cause : Cause} (ht : h.lastDelivered = none)
    (hcause : h.cause = some cause) :
    lastDeliveredBytes h
      = twoBytes (4096 * ((if h.lockout then 4 else 0) + causeNumber cause)) ++ [0, 0, 0, 0, 0] := by
  have hword : (BitVec.ofBool false ++ BitVec.ofBool h.lockout ++ headerCause (some cause) ++ (0 : SheetId)).toNat
      = 4096 * ((if h.lockout then 4 else 0) + causeNumber cause) := by
    rw [toNat_append, headerBits_toNat]
    exact congrArg (4096 * ·) (Nat.zero_add _)
  simp only [lastDeliveredBytes, ht, hcause, tagBytes]
  rw [halfBytes_eq, hword]
  rfl

theorem lastDeliveredBytes_length (h : CensusHeader) : (lastDeliveredBytes h).length = 7 := by
  unfold lastDeliveredBytes
  split <;> rfl

theorem censusPayload_length (c : CensusPart) :
    (censusPayload c).length = 12 + 7 * c.entries.length + (c.entries.length + 1) / 2 := by
  have hentries : (c.entries.flatMap entryTagBytes).length = 7 * c.entries.length := by
    rw [List.length_flatMap]
    have hseven : ∀ e ∈ c.entries, (entryTagBytes e).length = 7 := fun _ _ => rfl
    rw [List.map_congr_left hseven, List.map_const', List.sum_replicate, smul_eq_mul, Nat.mul_comm]
  have hhalf : ∀ w, (halfBytes w).length = 2 := fun _ => rfl
  simp only [censusPayload, List.length_append, List.length_cons, List.length_nil, hhalf, lastDeliveredBytes_length,
    hentries, pairBytes_length]

/-- The part number and the count of parts, each in its bit. -/
theorem partBits {total number parts : Nat} (h1 : 1 ≤ number) (h2 : number ≤ 2) (hp1 : 1 ≤ parts) (hp2 : parts ≤ 2) :
    total * 8 + (number - 1) * 4 + (parts - 1) * 2
      = 8 * total + (if number = 2 then 4 else 0) + if parts = 2 then 2 else 0 := by
  split <;> split <;> omega

/-! ## STATUS (11.5) -/

theorem sensorByte_eq (sensor : Option Nat) : sensorByte sensor = BitVec.ofNat 8 (sensor.getD 255) := by
  cases sensor <;> rfl

theorem captureBytes_eq (capture : Option Capture) : captureBytes capture = captureSummary capture := by
  cases capture with
  | none => rfl
  | some c =>
    have hcode : 128 + causeCode c.cause * 32 + kindCodeOf c.kind
        = 128 + 32 * causeNumber c.cause + kindNumber c.kind := by
      rw [causeCode_eq, kindCodeOf_eq, Nat.mul_comm]
    have hnone : optionalSheet none = [0x80, 0] := rfl
    have hsome : ∀ id, optionalSheet (some id) = twoBytes id.toNat := halfBytes_zero_append
    cases hsheet : c.sheetId with
    | none => simp only [captureBytes, captureSummary, byteOf, hcode, sensorByte_eq, hsheet, hnone]
    | some id => simp only [captureBytes, captureSummary, byteOf, hcode, sensorByte_eq, hsheet, hsome]

theorem byte_of_bits (b : Byte) :
    b = bitsByte (b.getLsbD 7) (b.getLsbD 6) (b.getLsbD 5) (b.getLsbD 4) (b.getLsbD 3) (b.getLsbD 2) (b.getLsbD 1)
      (b.getLsbD 0) := by
  revert b
  decide

/-- The marks of the first `n` stations of the roster. -/
theorem rosterMarks_bits (mark : Nat → Bool) {n k : Nat} (hn : n ≤ 14) (hk : k < 16) :
    ((List.range n).foldl (fun m i => if mark i then m ||| BitVec.twoPow 16 (i + 1) else m) (0 : Half)).getLsbD k
      = (decide (1 ≤ k ∧ k ≤ n) && mark (k - 1)) := by
  induction n with
  | zero =>
    have hnone : ¬(1 ≤ k ∧ k ≤ 0) := by omega
    rw [decide_eq_false hnone, Bool.false_and]
    exact BitVec.getLsbD_zero
  | succ n ih =>
    have hbelow := ih (by omega)
    rw [List.range_succ, List.foldl_append, List.foldl_cons, List.foldl_nil]
    by_cases hplace : k = n + 1
    · subst hplace
      have hout : ¬(1 ≤ n + 1 ∧ n + 1 ≤ n) := by omega
      have hin : 1 ≤ n + 1 ∧ n + 1 ≤ n + 1 := by omega
      rw [decide_eq_false hout, Bool.false_and] at hbelow
      rw [decide_eq_true hin, Bool.true_and, Nat.add_sub_cancel]
      cases hmark : mark n with
      | false => rw [if_neg Bool.false_ne_true, hbelow]
      | true => rw [if_pos rfl, BitVec.getLsbD_or, hbelow, BitVec.getLsbD_twoPow, decide_eq_true hk]; simp
    · have hsame : (1 ≤ k ∧ k ≤ n + 1) ↔ (1 ≤ k ∧ k ≤ n) := by omega
      have hother : ¬n + 1 = k := fun h => hplace h.symm
      rw [decide_eq_decide.2 hsame, ← hbelow]
      split
      · rw [BitVec.getLsbD_or, BitVec.getLsbD_twoPow, decide_eq_false hother, Bool.and_false, Bool.or_false]
      · rfl

theorem rosterMarks_eq {marks : Vector Bool 14} {roster : Half}
    (h : ∀ k < 16, roster.getLsbD k = (decide (1 ≤ k ∧ k ≤ 14) && marks.toList.getD (k - 1) false)) :
    rosterMarks marks = roster :=
  BitVec.eq_of_getLsbD_eq fun k hk =>
    (rosterMarks_bits (fun i => marks.toList.getD i false) le_rfl hk).trans (h k hk).symm

theorem levelsByte_eq {c : StatusContents} {levels : Byte}
    (hlevels : ∀ k : Fin 4, levels.getLsbD k.val = decide (c.levels[k] = .covered))
    (hcover : levels.getLsbD 4 = decide (c.cover = .closed)) (hline : levels.getLsbD 5 = c.lineHigh)
    (h6 : levels.getLsbD 6 = false) (h7 : levels.getLsbD 7 = false) : levelsByte c = levels := by
  have hbit : ∀ k : Fin 4, (c.levels.toList.getD k.val .clear == .covered) = levels.getLsbD k.val := by
    intro k
    rw [hlevels k]
    have hget : c.levels.toList.getD k.val .clear = c.levels[k] := by
      rw [List.getD_eq_getElem _ _ (by simp)]
      simp
    rw [hget]
    rfl
  have hclosed : (c.cover == .closed) = levels.getLsbD 4 := by
    rw [hcover]
    rfl
  have h0 : _ = levels.getLsbD 0 := hbit 0
  have h1 : _ = levels.getLsbD 1 := hbit 1
  have h2 : _ = levels.getLsbD 2 := hbit 2
  have h3 : _ = levels.getLsbD 3 := hbit 3
  rw [byte_of_bits levels, h7, h6, hline, ← hclosed, ← h0, ← h1, ← h2, ← h3]
  rfl

theorem counterBytes_eq (k : Counters) :
    counterBytes k
      = [k.delivered, k.passed, k.slip, k.chatter, k.receiveError, k.transmitRetry, k.transmitDiscard, k.reportDrop,
          k.refused, k.residue, k.clamp].flatMap fun x => twoBytes x.toNat := by
  simp only [counterBytes, halfBytes_eq, List.flatMap_cons, List.flatMap_nil, List.append_nil, List.append_assoc]

/-! ## The envelope (R145, 11.1) -/

/-- The payload of every frame sent has a length its type allows. -/
theorem bodyPayload_length (now : Tick) (body : Body) (h : ∀ c, body = .census c → c.entries.length ≤ 8) :
    (bodyPayload now body).length ∈ payloadLengths (bodyType body) := by
  cases body with
  | jam c =>
    have hpayload : bodyPayload now (.jam c) = jamPayload (jamFrameOf c) := jamContentsPayload_eq c
    rw [hpayload]
    exact List.mem_singleton.2 rfl
  | handoff | taken | hello => exact List.mem_singleton.2 rfl
  | census c =>
    have hlength : (bodyPayload now (.census c)).length
        = 12 + 7 * c.entries.length + (c.entries.length + 1) / 2 := censusPayload_length c
    have hall : ∀ e ≤ 8, 12 + 7 * e + (e + 1) / 2 ∈ payloadLengths .census := by decide
    rw [hlength]
    exact hall _ (h c rfl)
  | notice n => cases n <;> exact List.contains_iff_mem.1 rfl
  | status c =>
    have hcapture : (captureBytes c.capture).length = 6 := by
      cases c.capture with
      | none => rfl
      | some capture => cases hsheet : capture.sheetId <;> simp only [captureBytes, hsheet] <;> rfl
    have hhalf : ∀ w, (halfBytes w).length = 2 := fun _ => rfl
    have hnumber : ∀ n, (numberBytes n).length = 2 := fun _ => rfl
    have hlength : (bodyPayload now (.status c)).length = 42 := by
      simp only [bodyPayload, statusPayload, counterBytes, List.length_append, List.length_cons, List.length_nil,
        hcapture, hhalf, hnumber]
    rw [hlength]
    exact List.mem_singleton.2 rfl

/-- Settles O23: field by field, each number of a payload is written as the statement writes it. -/
theorem sentFrames : Obligations.SentFrames := by
  refine ⟨fun now own e hentries => ⟨rfl, bodyPayload_length now e.body hentries, fun c hc => ?_⟩,
    fun _ _ _ _ => ⟨rfl, rfl, rfl⟩, rfl, noticeBytes,
    fun p cause hcause h1 h2 hp1 hp2 hlengths hlast => ?_,
    fun c roster levels hroster hlevels hcover hline h6 h7 => ?_⟩
  · simp only [hc]
    exact censusPayload_length c
  · have hentries : p.entries.flatMap entryTagBytes
        = p.entries.flatMap fun e => packedTag (4 * fateNumber e.fate + if e.jamFlag then 2 else 0) e.tag :=
      List.flatMap_congr fun e he => entryTagBytes_eq (hlengths e he)
    have hword := halfBytes_eq (p.header.covered ++ p.header.laterSet)
    rw [toNat_append] at hword
    have hrank : p.header.rank * 16 + kindCodeOf p.header.kind = 16 * p.header.rank + kindNumber p.header.kind := by
      rw [kindCodeOf_eq, Nat.mul_comm]
    rw [censusPayload, hrank, hword, partBits h1 h2 hp1 hp2, hentries, pairBytes_eq]
    cases ht : p.header.lastDelivered with
    | none =>
      rw [lastDelivered_absent ht hcause]
      rfl
    | some t =>
      rw [lastDelivered_present ht hcause (hlast t ht)]
      rfl
  · rw [statusPayload, captureBytes_eq, stateCode_eq, halfBytes_zero_append, numberBytes_eq, numberBytes_eq,
      rosterMarks_eq hroster, halfBytes_eq roster, levelsByte_eq hlevels hcover hline h6 h7, counterBytes_eq]
    rfl

end Sys2Proof.Laws
end
